-- ==== Sys2Proof/Word.lean ====
section
/-! DEFINITION. The value types of the hardware (`00_scope.md` rules R4, R7, R8). -/

namespace Sys2Proof

/-- A byte, 8 bits, 0..255 (R7). -/
abbrev Byte := BitVec 8

/-- A finite sequence of bytes, byte 0 first (R7). -/
abbrev Bytes := List Byte

/-- A 64-bit unsigned word (R7). -/
abbrev Word := BitVec 64

/-- A block of exactly 16 bytes, held as the 128-bit big-endian integer its bytes spell
(R7, R8, R28, R60): byte 0 is bits 127 to 120. DEDUCED, log 13. -/
abbrev Block := BitVec 128

/-- A key of the collaborator: a byte string of any length (R6). -/
abbrev Key := Bytes

end Sys2Proof
end

