-- ==== Sys2Proof/Syntax.lean ====
section
/-! DEFINITION. The 23 commands of `30_encoding.md` rule R84, one constructor per row, each with
the operands its format gives it (R83). Scalars are signed integers (R85); `key` and `iv` may be
absent (R86). -/

namespace Sys2Proof

/-- The commands (R84). A constructor's docstring names the rule that gives its meaning. -/
inductive Instr where
  /-- `GHASH.INIT subkey` (R100). -/
  | ghashInit (subkey : Bytes)
  /-- `GHASH.UPDATE data, ofs, len` (R101). -/
  | ghashUpdate (data : Bytes) (ofs len : Int)
  /-- `GHASH.DIGEST` (R103). -/
  | ghashDigest
  /-- `GHASH.RESET` (R104). -/
  | ghashReset
  /-- `GHASH.SAVE` (R105). -/
  | ghashSave
  /-- `GHASH.RESTORE` (R106). -/
  | ghashRestore
  /-- `GCTR.INIT icb` (R120). -/
  | gctrInit (icb : Bytes)
  /-- `GCTR.UPDATE in, len, out_cap` (R121). -/
  | gctrUpdate (input : Bytes) (len outCap : Int)
  /-- `GCTR.DOFINAL in, len, out_cap` (R122). -/
  | gctrDofinal (input : Bytes) (len outCap : Int)
  /-- `GCTR.RESET` (R123). -/
  | gctrReset
  /-- `GCTR.SAVE` (R124). -/
  | gctrSave
  /-- `GCTR.RESTORE` (R125). -/
  | gctrRestore
  /-- `GCM.INIT dec, key, iv, taglen` (R140); `dec` is `cw.D`, `taglen` is `cw.TL` (R82). -/
  | gcmInit (dec : Bool) (key iv : Option Bytes) (taglen : Nat)
  /-- `GCM.UPDATE_AAD data, ofs, len` (R141). -/
  | gcmUpdateAad (data : Bytes) (ofs len : Int)
  /-- `GCM.ENCRYPT in, len, out_cap` (R144). -/
  | gcmEncrypt (input : Bytes) (len outCap : Int)
  /-- `GCM.ENCRYPT_FINAL in, len, out_cap` (R145). -/
  | gcmEncryptFinal (input : Bytes) (len outCap : Int)
  /-- `GCM.DECRYPT in, len, out_cap` (R146). -/
  | gcmDecrypt (input : Bytes) (len outCap : Int)
  /-- `GCM.DECRYPT_FINAL in, len, out_cap` (R147). -/
  | gcmDecryptFinal (input : Bytes) (len outCap : Int)
  /-- `GCM.RESET` (R148). -/
  | gcmReset
  /-- `GCM.SAVE` (R149). -/
  | gcmSave
  /-- `GCM.RESTORE` (R150). -/
  | gcmRestore
  /-- `GCM.GET_TAG_LENGTH` (R151). -/
  | gcmGetTagLength
  /-- `GCM.GET_BUFFERED_LENGTH` (R152). -/
  | gcmGetBufferedLength
  deriving DecidableEq, Repr

end Sys2Proof
end

