-- ==== Sys2Proof/WellFormed.lean ====
section
/-! DEFINITION. Which terms of `Instr` are commands of the interface: operands within the ranges
that `30_encoding.md` rules R82, R85 and R86 give their slots. -/

namespace Sys2Proof

/-- A byte-string operand is shorter than `2^31` bytes (R86). -/
def bytesOk (b : Bytes) : Bool := decide (b.length < 2 ^ 31)

/-- An operand that may be absent is absent or in range (R86). -/
def optBytesOk : Option Bytes → Bool
  | none => true
  | some b => bytesOk b

/-- A scalar operand lies in `-2^31 .. 2^31 - 1` (R85). -/
def scalarOk (x : Int) : Bool := decide (-2 ^ 31 ≤ x) && decide (x < 2 ^ 31)

/-- The tag length is an 8-bit unsigned field, 0..255 (R82). -/
def tagFieldOk (t : Nat) : Bool := decide (t < 256)

/-- The well-formed commands: every operand fits its slot. -/
def Instr.wellFormed : Instr → Bool
  | .ghashInit subkey => bytesOk subkey
  | .ghashUpdate data ofs len => bytesOk data && scalarOk ofs && scalarOk len
  | .ghashDigest => true
  | .ghashReset => true
  | .ghashSave => true
  | .ghashRestore => true
  | .gctrInit icb => bytesOk icb
  | .gctrUpdate input len outCap => bytesOk input && scalarOk len && scalarOk outCap
  | .gctrDofinal input len outCap => bytesOk input && scalarOk len && scalarOk outCap
  | .gctrReset => true
  | .gctrSave => true
  | .gctrRestore => true
  | .gcmInit _ key iv taglen => optBytesOk key && optBytesOk iv && tagFieldOk taglen
  | .gcmUpdateAad data ofs len => bytesOk data && scalarOk ofs && scalarOk len
  | .gcmEncrypt input len outCap => bytesOk input && scalarOk len && scalarOk outCap
  | .gcmEncryptFinal input len outCap => bytesOk input && scalarOk len && scalarOk outCap
  | .gcmDecrypt input len outCap => bytesOk input && scalarOk len && scalarOk outCap
  | .gcmDecryptFinal input len outCap => bytesOk input && scalarOk len && scalarOk outCap
  | .gcmReset => true
  | .gcmSave => true
  | .gcmRestore => true
  | .gcmGetTagLength => true
  | .gcmGetBufferedLength => true

end Sys2Proof
end

