-- ==== Sys2Proof/Decode.lean ====
section
/-! DEFINITION. The command record, the opcode map, the decoder and the encoder
(`30_encoding.md` rules R81 to R88). -/

namespace Sys2Proof

/-- A command as it stands on the command port (R81): one 32-bit command word and the operand
slots, every command with the same shape. There are up to two byte-string operands and three
scalars; format `I` takes `key` from the first byte-string slot and `iv` from the second, the
other formats take `in` from the first (DESIGN CHOICE, log 8). -/
structure Command where
  /-- The command word (R82). -/
  cw : BitVec 32
  /-- First byte-string slot: `in`, or `key` in format `I`; `none` is absent (R86). -/
  input : Option Bytes
  /-- Second byte-string slot: `iv` in format `I`; `none` is absent (R86). -/
  iv : Option Bytes
  /-- `ofs`, 32-bit two's complement (R85). -/
  ofs : BitVec 32
  /-- `len`, 32-bit two's complement (R85). -/
  len : BitVec 32
  /-- `out_cap`, 32-bit two's complement (R85). -/
  outCap : BitVec 32
  deriving DecidableEq, Repr

/-- Why a command record is no command of the opcode map or of the interface. -/
inductive DecodeError where
  /-- The command word matches no row (R88): the hardware answers `IllegalCommand`. -/
  | illegalCommand
  /-- A command of format `B`, `O` or `X` without its operand `in`: not a command of this
  interface (R86). Log 9. -/
  | missingOperand
  /-- A byte-string operand of `2^31` bytes or more: not a command of this interface (R86).
  Log 9. -/
  | operandTooLong
  deriving DecidableEq, Repr

/-! ## Fields of the command word (R82) -/

/-- `D`, bit 8: `is_decrypting = (D = 1)`. -/
def fieldD (cw : BitVec 32) : Bool := cw.getLsbD 8

/-- `TL`, bits 23 to 16: `tag_length_bytes = zext(TL)`. -/
def fieldTL (cw : BitVec 32) : Nat := (cw.extractLsb' 16 8).toNat

/-- The command word with the given `OP`, `D` and `TL` and its reserved bits 0. -/
def commandWord (op : BitVec 8) (d : Bool) (tl : Nat) : BitVec 32 :=
  op.setWidth 32 ||| ((BitVec.ofBool d).setWidth 32 <<< 8) |||
    ((BitVec.ofNat 8 tl).setWidth 32 <<< 16)

/-! ## Operand slots (R83, R85, R86) -/

/-- A byte-string operand in range, or the error of R86. -/
def takeBytes (b : Bytes) : Except DecodeError Bytes :=
  if bytesOk b then .ok b else .error .operandTooLong

/-- The operand `in`, which formats `B`, `O` and `X` always have (R86). -/
def takeInput (c : Command) : Except DecodeError Bytes :=
  match c.input with
  | some b => takeBytes b
  | none => .error .missingOperand

/-- An operand of format `I`, which may be absent (R86). -/
def takeOptional : Option Bytes → Except DecodeError (Option Bytes)
  | none => .ok none
  | some b =>
    match takeBytes b with
    | .ok b => .ok (some b)
    | .error e => .error e

/-- Format `N`: no slot is looked at (R83). -/
def formatN (i : Instr) (_ : Command) : Except DecodeError Instr := .ok i

/-- Format `B`: the byte string `in` (R83). -/
def formatB (f : Bytes → Instr) (c : Command) : Except DecodeError Instr :=
  match takeInput c with
  | .ok b => .ok (f b)
  | .error e => .error e

/-- Format `O`: the byte string `in` and the scalars `ofs` and `len`, read with `sext` (R83, R85). -/
def formatO (f : Bytes → Int → Int → Instr) (c : Command) : Except DecodeError Instr :=
  match takeInput c with
  | .ok b => .ok (f b c.ofs.toInt c.len.toInt)
  | .error e => .error e

/-- Format `X`: the byte string `in` and the scalars `len` and `out_cap`, read with `sext`
(R83, R85). -/
def formatX (f : Bytes → Int → Int → Instr) (c : Command) : Except DecodeError Instr :=
  match takeInput c with
  | .ok b => .ok (f b c.len.toInt c.outCap.toInt)
  | .error e => .error e

/-- Format `I`: `cw.D`, `cw.TL` and the byte strings `key` and `iv`, each present or absent
(R83). -/
def formatI (f : Bool → Option Bytes → Option Bytes → Nat → Instr) (c : Command) :
    Except DecodeError Instr :=
  match takeOptional c.input, takeOptional c.iv with
  | .ok key, .ok iv => .ok (f (fieldD c.cw) key iv (fieldTL c.cw))
  | .error e, _ => .error e
  | .ok _, .error e => .error e

/-! ## The opcode map (R84) -/

/-- One row of R84: a command word selects it when `cw and mask = pattern`. -/
structure OpRow where
  /-- The row's mnemonic. -/
  mnemonic : String
  /-- The row's `match`. -/
  pattern : BitVec 32
  /-- The row's `mask`. -/
  mask : BitVec 32
  /-- The row's operation with the operands of its format. -/
  operands : Command → Except DecodeError Instr

/-- A command word selects a row (R84). -/
def OpRow.selects (r : OpRow) (cw : BitVec 32) : Bool := cw &&& r.mask == r.pattern

/-- The opcode map, in the order of R84. -/
def opcodeMap : List OpRow :=
  [ ⟨"GHASH.INIT", 0x00000010#32, 0xFFFFFFFF#32, formatB .ghashInit⟩,
    ⟨"GHASH.UPDATE", 0x00000011#32, 0xFFFFFFFF#32, formatO .ghashUpdate⟩,
    ⟨"GHASH.DIGEST", 0x00000012#32, 0xFFFFFFFF#32, formatN .ghashDigest⟩,
    ⟨"GHASH.RESET", 0x00000013#32, 0xFFFFFFFF#32, formatN .ghashReset⟩,
    ⟨"GHASH.SAVE", 0x00000014#32, 0xFFFFFFFF#32, formatN .ghashSave⟩,
    ⟨"GHASH.RESTORE", 0x00000015#32, 0xFFFFFFFF#32, formatN .ghashRestore⟩,
    ⟨"GCTR.INIT", 0x00000020#32, 0xFFFFFFFF#32, formatB .gctrInit⟩,
    ⟨"GCTR.UPDATE", 0x00000021#32, 0xFFFFFFFF#32, formatX .gctrUpdate⟩,
    ⟨"GCTR.DOFINAL", 0x00000022#32, 0xFFFFFFFF#32, formatX .gctrDofinal⟩,
    ⟨"GCTR.RESET", 0x00000023#32, 0xFFFFFFFF#32, formatN .gctrReset⟩,
    ⟨"GCTR.SAVE", 0x00000024#32, 0xFFFFFFFF#32, formatN .gctrSave⟩,
    ⟨"GCTR.RESTORE", 0x00000025#32, 0xFFFFFFFF#32, formatN .gctrRestore⟩ ] ++
  [ ⟨"GCM.INIT", 0x00000030#32, 0xFF00FEFF#32, formatI .gcmInit⟩,
    ⟨"GCM.UPDATE_AAD", 0x00000031#32, 0xFFFFFFFF#32, formatO .gcmUpdateAad⟩,
    ⟨"GCM.ENCRYPT", 0x00000032#32, 0xFFFFFFFF#32, formatX .gcmEncrypt⟩,
    ⟨"GCM.ENCRYPT_FINAL", 0x00000033#32, 0xFFFFFFFF#32, formatX .gcmEncryptFinal⟩,
    ⟨"GCM.DECRYPT", 0x00000034#32, 0xFFFFFFFF#32, formatX .gcmDecrypt⟩,
    ⟨"GCM.DECRYPT_FINAL", 0x00000035#32, 0xFFFFFFFF#32, formatX .gcmDecryptFinal⟩,
    ⟨"GCM.RESET", 0x00000036#32, 0xFFFFFFFF#32, formatN .gcmReset⟩,
    ⟨"GCM.SAVE", 0x00000037#32, 0xFFFFFFFF#32, formatN .gcmSave⟩,
    ⟨"GCM.RESTORE", 0x00000038#32, 0xFFFFFFFF#32, formatN .gcmRestore⟩,
    ⟨"GCM.GET_TAG_LENGTH", 0x00000039#32, 0xFFFFFFFF#32, formatN .gcmGetTagLength⟩,
    ⟨"GCM.GET_BUFFERED_LENGTH", 0x0000003A#32, 0xFFFFFFFF#32, formatN .gcmGetBufferedLength⟩ ]

/-- The row a command word selects, if any. -/
def selectRow (cw : BitVec 32) : Option OpRow := opcodeMap.find? (fun r => r.selects cw)

/-- The decoder, total on every command record (R88): an illegal word is found before any operand
is looked at (R185). -/
def decode (c : Command) : Except DecodeError Instr :=
  match selectRow c.cw with
  | some r => r.operands c
  | none => .error .illegalCommand

/-! ## The encoder -/

/-- A scalar as its 32-bit two's-complement slot (R85). -/
def encodeScalar (x : Int) : BitVec 32 := BitVec.ofInt 32 x

/-- A command of format `N`, its unused slots empty. -/
def encodeN (op : BitVec 8) : Command := ⟨commandWord op false 0, none, none, 0, 0, 0⟩

/-- A command of format `B`. -/
def encodeB (op : BitVec 8) (b : Bytes) : Command :=
  { encodeN op with input := some b }

/-- A command of format `O`. -/
def encodeO (op : BitVec 8) (b : Bytes) (ofs len : Int) : Command :=
  { encodeN op with input := some b, ofs := encodeScalar ofs, len := encodeScalar len }

/-- A command of format `X`. -/
def encodeX (op : BitVec 8) (b : Bytes) (len outCap : Int) : Command :=
  { encodeN op with input := some b, len := encodeScalar len, outCap := encodeScalar outCap }

/-- The command record of an instruction, from the field layout of R82 and the numbers of R84. -/
def encode : Instr → Command
  | .ghashInit subkey => encodeB 0x10 subkey
  | .ghashUpdate data ofs len => encodeO 0x11 data ofs len
  | .ghashDigest => encodeN 0x12
  | .ghashReset => encodeN 0x13
  | .ghashSave => encodeN 0x14
  | .ghashRestore => encodeN 0x15
  | .gctrInit icb => encodeB 0x20 icb
  | .gctrUpdate input len outCap => encodeX 0x21 input len outCap
  | .gctrDofinal input len outCap => encodeX 0x22 input len outCap
  | .gctrReset => encodeN 0x23
  | .gctrSave => encodeN 0x24
  | .gctrRestore => encodeN 0x25
  | .gcmInit dec key iv taglen => ⟨commandWord 0x30 dec taglen, key, iv, 0, 0, 0⟩
  | .gcmUpdateAad data ofs len => encodeO 0x31 data ofs len
  | .gcmEncrypt input len outCap => encodeX 0x32 input len outCap
  | .gcmEncryptFinal input len outCap => encodeX 0x33 input len outCap
  | .gcmDecrypt input len outCap => encodeX 0x34 input len outCap
  | .gcmDecryptFinal input len outCap => encodeX 0x35 input len outCap
  | .gcmReset => encodeN 0x36
  | .gcmSave => encodeN 0x37
  | .gcmRestore => encodeN 0x38
  | .gcmGetTagLength => encodeN 0x39
  | .gcmGetBufferedLength => encodeN 0x3A

/-! ## The opcode table's words -/

/-- The command whose word holds the low `nbits` bits of `w` and whose operands are zero: an empty
`in`, an absent `iv`, scalars 0 (DESIGN CHOICE, log 10). -/
def tableCommand (nbits w : Nat) : Command :=
  ⟨BitVec.ofNat 32 (w % 2 ^ nbits), some [], none, 0, 0, 0⟩

/-- The instruction the decoder reads from a word of `spec/opcode_table.json`. -/
def decodeTableWord (nbits w : Nat) : Option Instr :=
  match decode (tableCommand nbits w) with
  | .ok i => some i
  | .error _ => none

end Sys2Proof
end

