-- ==== Sys2Proof/Machine/State.lean ====
section
/-! DEFINITION. The architectural state (`10_state.md` rule R20), the two ports, the reasons a step
can stop, and the state after hardware reset (R44, R210). -/

namespace Sys2Proof.Machine

/-- The orchestrator's state machine (R22). -/
inductive Phase where
  | uninit
  | init
  | sealed
  | final
  deriving DecidableEq, Repr

/-- The status of a response (`60_exceptions.md` rule R181). -/
inductive Status where
  | ok
  | invalidParameter
  | internalSizeError
  | illegalBlockSize
  | invalidSubkey
  | unsupportedLength
  | invalidKey
  | illegalState
  | internalError
  | shortBuffer
  | aeadBadTag
  | illegalCommand
  deriving DecidableEq, Repr

/-- A response (`30_encoding.md` rule R87). -/
structure Response where
  /-- `OK` or an error. Its 8-bit code is `Status.code`. -/
  status : Status
  /-- 0, except with `AEADBadTag`: 1 need tag, 2 tag mismatch. -/
  info : BitVec 8
  /-- The scalar result; 0 when the command has none and with every error. -/
  n : Int
  /-- The output data; empty when the command has none and with every error. -/
  out : Bytes
  deriving DecidableEq, Repr

/-- What the outside presents at the machine's boundary. -/
inductive PortEvent where
  /-- The host issues a command on the command port (R80, R81). -/
  | command (c : Command)
  /-- Hardware reset, an event of the environment between two commands (R210). -/
  | hardwareReset
  deriving DecidableEq, Repr

/-- Why a step stops with a fault. -/
inductive Fault where
  /-- A rule writes `E(CK, b)` while `CK` is absent (`30_encoding.md` rule R92). Raised by the
  meanings that need the key, through `withKey`. Safe: no state that meets R43 (a) and (g) raises
  it. Log 11. -/
  | cipherNotKeyed
  deriving DecidableEq, Repr

/-- Why a step has no meaning: the refusals of `60_exceptions.md` rule R186, and what is no command
of the interface (R86). All are safe: the model has no next state there. Log 12. -/
inductive Refusal where
  /-- No meaning yet, raised by an arm of `exec` for the mnemonic. Safe. -/
  | notModelled (mnemonic : String)
  /-- An offset or length outside its operand, where no error is named (R186, D8). Raised by
  `GHASH.UPDATE`, `GCM.UPDATE_AAD` and the payload commands. Safe. -/
  | operandBounds
  /-- A total length beyond `MAXLEN` (R5, R186, D9). Raised by `GCM.INIT`, `GCM.UPDATE_AAD` and the
  payload commands. Safe. -/
  | lengthLimit
  /-- A buffer would exceed `AAD_CAP` or `IBUF_CAP` (R186, D10). Raised by `GCM.UPDATE_AAD`,
  `GCM.DECRYPT` and `GCM.DECRYPT_FINAL`. Safe. -/
  | bufferCapacity
  /-- A tag length outside 1..16 (R186, D11). Raised by `GCM.INIT`. Safe. -/
  | tagLength
  /-- A command without the operand its format has (R86). Raised by the step. Safe. Log 9. -/
  | missingOperand
  /-- A byte-string operand of `2^31` bytes or more (R86). Raised by the step. Safe. Log 9. -/
  | operandTooLong
  deriving DecidableEq, Repr

/-- The complete architectural state (R20) and the two ports (R80). -/
structure State where
  /-- `CK`, the collaborator's key, or absent (R31). -/
  ck : Option Key
  /-- `GH_INIT` (R25). -/
  ghInit : Bool
  /-- `H0`, first half of the hash subkey (R23). -/
  h0 : Word
  /-- `H1`, second half of the hash subkey (R23). -/
  h1 : Word
  /-- `S0`, first half of the accumulator (R24). -/
  s0 : Word
  /-- `S1`, second half of the accumulator (R24). -/
  s1 : Word
  /-- `GH_SV`, the GHASH snapshot is valid (R26). -/
  ghSv : Bool
  /-- `SS0`, saved accumulator (R26). -/
  ss0 : Word
  /-- `SS1`, saved accumulator (R26). -/
  ss1 : Word
  /-- `GC_INIT` (R29). -/
  gcInit : Bool
  /-- `ICB`, initial counter block (R27). -/
  icb : Block
  /-- `CTR`, the counter (R28). -/
  ctr : Block
  /-- `GC_SV`, the GCTR snapshot is valid (R30). -/
  gcSv : Bool
  /-- `CTRS`, saved counter (R30). -/
  ctrs : Block
  /-- `PHASE` (R22). -/
  phase : Phase
  /-- `DEC`, the operation is a decryption (R32). -/
  dec : Bool
  /-- `TAGLEN`, tag length in bytes (R33). -/
  taglen : Nat
  /-- `J0`, the pre-counter block (R34). -/
  j0 : Block
  /-- `AAD`, the associated-data buffer (R35). -/
  aad : Bytes
  /-- `AADLEN`, length of the sealed associated data (R36). -/
  aadlen : Nat
  /-- `PROC`, the processed-length counter (R37). -/
  proc : Nat
  /-- `IBUF`, the decrypt input buffer (R38). -/
  ibuf : Bytes
  /-- `GM_SV`, the orchestrator's snapshot is valid (R39). -/
  gmSv : Bool
  /-- `S_PHASE` (R39). -/
  sPhase : Phase
  /-- `S_AAD` (R39). -/
  sAad : Bytes
  /-- `S_AADLEN` (R39). -/
  sAadlen : Nat
  /-- `S_PROC` (R39). -/
  sProc : Nat
  /-- `S_IBUF` (R39). -/
  sIbuf : Bytes
  /-- The events the outside presents, the head first (R69, R80, R210). The model's own field,
  log 5. -/
  port : List PortEvent
  /-- The response port: the response to the latest command, if any (R80, R87). The model's own
  field, log 6. -/
  response : Option Response
  deriving DecidableEq, Repr

/-- The state after hardware reset (R44, R210). The registers R44 leaves without a value hold zero,
`UNINIT` or nothing (DESIGN CHOICE, log 1); the ports are empty (DESIGN CHOICE, log 5, log 6). -/
def State.reset : State where
  ck := none
  ghInit := false
  h0 := 0
  h1 := 0
  s0 := 0
  s1 := 0
  ghSv := false
  ss0 := 0
  ss1 := 0
  gcInit := false
  icb := 0
  ctr := 0
  gcSv := false
  ctrs := 0
  phase := .uninit
  dec := false
  taglen := 16
  j0 := 0
  aad := []
  aadlen := 0
  proc := 0
  ibuf := []
  gmSv := false
  sPhase := .uninit
  sAad := []
  sAadlen := 0
  sProc := 0
  sIbuf := []
  port := []
  response := none

/-- The outcome of a command (the host's three outcomes over this machine). -/
abbrev Result := Host.Outcome State Fault Refusal

end Sys2Proof.Machine
end

