-- ==== Sys2Proof/Machine/Flags.lean ====
section
/-! DEFINITION. The tests over the Boolean state and `PHASE`. The hardware has no condition codes
(`10_state.md` rule R40): these are the presence bits, the snapshot bits and the phase tests that
decide whether a command is legal (`60_exceptions.md` rule R182, `42_gcm.md` rules R155, R157). -/

namespace Sys2Proof.Machine

/-- `GHASH.RESTORE` is legal: initialised, with a valid snapshot (R106). -/
def ghashRestorable (s : State) : Bool := s.ghInit && s.ghSv

/-- `GCTR.RESTORE` is legal: initialised, with a valid snapshot (R125). -/
def gctrRestorable (s : State) : Bool := s.gcInit && s.gcSv

/-- The orchestrator has been initialised: `PHASE != UNINIT` (R148, R149). -/
def gcmReady (s : State) : Bool := decide (s.phase ≠ .uninit)

/-- `GCM.RESTORE` is legal: initialised, with all three snapshot bits set (R150). -/
def gcmRestorable (s : State) : Bool := gcmReady s && (s.gmSv && s.gcSv && s.ghSv)

/-- `payload_legal(want_dec)` (R155). -/
def payloadLegal (wantDec : Bool) (s : State) : Bool :=
  (decide (s.phase = .init) || decide (s.phase = .sealed)) && (s.dec == wantDec)

end Sys2Proof.Machine
end

