-- ==== Sys2Proof/Config.lean ====
section
/-! DEFINITION. What an implementation fixes: the open parameters of `00_scope.md` rule R6, as
constants with no body, so that nothing proved depends on their values, and the record `Params`
that the meanings take them from. The record also lets a test run a meaning with a concrete
collaborator (`95_test_vectors.md` section 2). -/

namespace Sys2Proof

/-- The open parameters of the model (R6). `GATE` is not among them: this spec fixes it true
(R6, `92_eei_decisions.md` D16; log 4). -/
structure Params where
  /-- `E`: the collaborator's keyed single-block encryption, a total function of key and input
  alone (R6, R73, R92). -/
  encrypt : Key → Block → Block
  /-- `KeyOK`: whether the collaborator accepts a key (R6, R91). -/
  keyOk : Key → Bool
  /-- `AAD_CAP`: capacity of the associated-data buffer in bytes; `none` is unbounded (R6, D10). -/
  aadCap : Option Nat
  /-- `IBUF_CAP`: capacity of the decrypt input buffer in bytes; `none` is unbounded (R6, D10). -/
  ibufCap : Option Nat

/-- `E` of this machine's collaborator, left open by the spec (R6, U1). Log 2. -/
opaque Config.encrypt : Key → Block → Block

/-- `KeyOK` of this machine's collaborator, left open by the spec (R6, U1, U19). Log 2. -/
opaque Config.keyOk : Key → Bool

/-- `AAD_CAP` of this machine, left open by the spec (R6, U2, D10). Log 3. -/
opaque Config.aadCap : Option Nat

/-- `IBUF_CAP` of this machine, left open by the spec (R6, U2, D10). Log 3. -/
opaque Config.ibufCap : Option Nat

/-- The parameters of this machine. -/
def Config.params : Params where
  encrypt := Config.encrypt
  keyOk := Config.keyOk
  aadCap := Config.aadCap
  ibufCap := Config.ibufCap

end Sys2Proof
end

