-- ==== Sys2Proof/Machine/Arith.lean ====
section
/-! DEFINITION. The arithmetic: byte order (`00_scope.md` rules R7, R8) and the pure functions
(R10 to R19). Nothing here reads or writes state. -/

namespace Sys2Proof.Machine

/-! ## Byte order (R7, R8, R60) -/

/-- The unsigned integer a byte string spells, most significant byte first (R7). -/
def beNat (b : Bytes) : Nat := b.foldl (fun a x => a * 256 + x.toNat) 0

/-- The `n` bytes of `v mod 256^n`, most significant byte first (R7). -/
def beBytes : Nat → Nat → Bytes
  | 0, _ => []
  | n + 1, v => BitVec.ofNat 8 (v / 256 ^ n) :: beBytes n v

/-- `be64` on 8 bytes (R7). -/
def be64 (b : Bytes) : Word := BitVec.ofNat 64 (beNat b)

/-- `BE64` (R7). -/
def bytesOfWord (w : Word) : Bytes := beBytes 8 w.toNat

/-- `BE32` (R7). -/
def be32Bytes (n : Nat) : Bytes := beBytes 4 n

/-- The block that 16 bytes spell (R8). -/
def blockOfBytes (b : Bytes) : Block := BitVec.ofNat 128 (beNat b)

/-- The 16 bytes of a block, byte 0 first (R8). -/
def bytesOfBlock (b : Block) : Bytes := beBytes 16 b.toNat

/-- `W0`, bytes 0 to 7 of a block as a word (R8). -/
def word0 (b : Block) : Word := b.extractLsb' 64 64

/-- `W1`, bytes 8 to 15 of a block as a word (R8). -/
def word1 (b : Block) : Word := b.extractLsb' 0 64

/-- The block whose first half is `w0` and whose second half is `w1` (R8). -/
def blockOfWords (w0 w1 : Word) : Block := w0 ++ w1

/-! ## Counter, padding and chunks -/

/-- `inc32` (R10): the last 4 bytes plus 1 modulo `2^32`, the first 12 bytes kept. -/
def inc32 (b : Block) : Block := b.extractLsb' 32 96 ++ (b.extractLsb' 0 32 + 1#32)

/-- `pad16` (R11): zero bytes up to the next multiple of 16. -/
def pad16 (b : Bytes) : Bytes := b ++ List.replicate ((16 - b.length % 16) % 16) 0#8

/-- The first `n` successive 16-byte chunks of `d`. -/
def chunksN : Nat → Bytes → List Bytes
  | 0, _ => []
  | n + 1, d => d.take 16 :: chunksN n (d.drop 16)

/-- The successive 16-byte chunks of `d`, the last of which may be shorter (R13, R14). -/
def chunks (d : Bytes) : List Bytes := chunksN ((d.length + 15) / 16) d

/-! ## GHASH -/

/-- The loop of `block_mult` (R12) with `n` steps to go, so that `k = 128 - n`: the accumulator
`(z0, z1)` and the working copy `(v0, v1)` of the subkey. -/
def multLoop (x0 x1 : Word) : Nat → Word → Word → Word → Word → Word × Word
  | 0, z0, z1, _, _ => (z0, z1)
  | n + 1, z0, z1, v0, v1 =>
    let k := 127 - n
    let xbit := if k < 64 then (x0 >>> (63 - k)) &&& 1#64 else (x1 >>> (127 - k)) &&& 1#64
    let z0' := if xbit = 1#64 then z0 ^^^ v0 else z0
    let z1' := if xbit = 1#64 then z1 ^^^ v1 else z1
    if k < 127 then
      let out := v1 &&& 1#64
      let v1' := (v1 >>> 1) ||| ((v0 &&& 1#64) <<< 63)
      let v0' := v0 >>> 1
      multLoop x0 x1 n z0' z1' (if out = 1#64 then v0' ^^^ 0xE100000000000000#64 else v0') v1'
    else multLoop x0 x1 n z0' z1' v0 v1

/-- `block_mult` (R12): the product of the blocks `(x0, x1)` and `(h0, h1)` in GF(2^128), 128
accumulate steps and 127 shifts (`90_conflicts.md` C1), the constant into the first word (C2).
Irreducible, so that no unification runs the 128 steps on symbolic words. -/
@[irreducible] def blockMult (x0 x1 h0 h1 : Word) : Word × Word := multLoop x0 x1 128 0#64 0#64 h0 h1

/-- One step of the hash, `(Z xor X) * H` (R13, R102). -/
def ghashStep (h0 h1 : Word) (z : Word × Word) (x : Block) : Word × Word :=
  blockMult (z.1 ^^^ word0 x) (z.2 ^^^ word1 x) h0 h1

/-- The hash recurrence over the 16-byte blocks of `d`, from the accumulator `z` (R13, R107). -/
def ghashFrom (h0 h1 : Word) (z : Word × Word) (d : Bytes) : Word × Word :=
  (chunks d).foldl (fun z c => ghashStep h0 h1 z (blockOfBytes c)) z

/-- `ghash_fn` (R13): the recurrence from the zero block. -/
def ghashFn (h : Block) (d : Bytes) : Block :=
  blockOfWords (ghashFrom (word0 h) (word1 h) (0#64, 0#64) d).1
    (ghashFrom (word0 h) (word1 h) (0#64, 0#64) d).2

/-! ## GCTR -/

/-- Bytewise xor of a chunk with the first bytes of a keystream block (R14). -/
def xorBytes (x y : Bytes) : Bytes := List.zipWith (fun a b => a ^^^ b) x y

/-- `gctr_fn` over a list of chunks; `e` is `E(k, .)` (R14). -/
def gctrChunks (e : Block → Block) : List Bytes → Block → Bytes × Block
  | [], cb => ([], cb)
  | x :: xs, cb =>
    (xorBytes x (bytesOfBlock (e cb)) ++ (gctrChunks e xs (inc32 cb)).1,
      (gctrChunks e xs (inc32 cb)).2)

/-- `gctr_fn` (R14): the data xored with the keystream from `cb`, and the counter after it. -/
def gctrFn (e : Block → Block) (cb : Block) (d : Bytes) : Bytes × Block :=
  gctrChunks e (chunks d) cb

/-! ## Length blocks, pre-counter block, tag -/

/-- `len_block` (R15). -/
def lenBlock (a c : Nat) : Bytes :=
  List.replicate 4 0#8 ++ be32Bytes (8 * a) ++ List.replicate 4 0#8 ++ be32Bytes (8 * c)

/-- `iv_len_block` (R16). -/
def ivLenBlock (n : Nat) : Bytes := List.replicate 12 0#8 ++ be32Bytes (8 * n)

/-- `j0_fn` (R17). -/
def j0Fn (h : Block) (iv : Bytes) : Block :=
  if iv.length = 12 then blockOfBytes (iv ++ be32Bytes 1)
  else ghashFn h (pad16 iv ++ ivLenBlock iv.length)

/-- `tag_fn` (R18); `e` is `E(k, .)`. -/
def tagFn (e : Block → Block) (j0 s : Block) (t : Nat) : Bytes :=
  (bytesOfBlock (s ^^^ e j0)).take t

/-- `tag_equal` (R19): the `or` of all the bytewise differences is zero. -/
def tagEqual (a b : Bytes) : Bool :=
  (List.zipWith (fun x y => x ^^^ y) a b).foldl (fun d x => d ||| x) 0#8 == 0#8

end Sys2Proof.Machine
end

