-- ==== Sys2Proof/Machine/Operands.lean ====
section
/-! DEFINITION. Operand access (`20_memory.md` rules R62 to R67) and the length limits
(`00_scope.md` rules R5, R6). -/

namespace Sys2Proof.Machine

/-- `MemRead(in, a, n)`, the bytes `in[a .. a+n)` (R63), for `a` and `n` in bounds. -/
def memRead (input : Bytes) (a n : Int) : Bytes := (input.drop a.toNat).take n.toNat

/-- `MemWrite(out, a, n, v)` with `n = |v|`: the bytes `v` at positions `a .. a+n` of the output
data (R64). -/
def memWrite (out : Bytes) (a : Nat) (v : Bytes) : Bytes :=
  out.take a ++ v ++ out.drop (a + v.length)

/-- The bytes `ofs .. ofs+len` lie within the operand (R63). -/
def inOperand (input : Bytes) (ofs len : Int) : Bool :=
  decide (0 ≤ ofs) && decide (0 ≤ len) && decide (ofs + len ≤ (input.length : Int))

/-- `len` is a nonnegative multiple of 16 (R67). -/
def wholeBlocks (len : Int) : Bool := decide (0 ≤ len) && decide (len % 16 = 0)

/-- `MAXLEN = 2^29 - 1` bytes (R5). -/
def maxLen : Nat := 2 ^ 29 - 1

/-- A buffer of `n` bytes fits a capacity; an unbounded capacity takes every size (R6). -/
def withinCap (cap : Option Nat) (n : Nat) : Bool :=
  match cap with
  | none => true
  | some c => decide (n ≤ c)

end Sys2Proof.Machine
end

