-- ==== Sys2Proof/Machine/Ops.lean ====
section
/-! DEFINITION. The shared operations: the responses, raising an error (the machine's only
exceptional event), the register updates of each unit, and the internal steps of the orchestrator
(`42_gcm.md` section 1). -/

namespace Sys2Proof.Machine

/-! ## Responses and errors -/

/-- The 8-bit status codes of R181. -/
def Status.code : Status → BitVec 8
  | .ok => 0
  | .invalidParameter => 1
  | .internalSizeError => 2
  | .illegalBlockSize => 3
  | .invalidSubkey => 4
  | .unsupportedLength => 5
  | .invalidKey => 6
  | .illegalState => 7
  | .internalError => 8
  | .shortBuffer => 9
  | .aeadBadTag => 10
  | .illegalCommand => 11

/-- `info` of `AEADBadTag(need tag)` (R181). -/
def infoNeedTag : BitVec 8 := 1

/-- `info` of `AEADBadTag(tag mismatch)` (R181). -/
def infoTagMismatch : BitVec 8 := 2

/-- Give a response on the response port (R80). -/
def State.respond (s : State) (r : Response) : State := { s with response := some r }

/-- `raise <Status>(info)` (R183): the command ends; the response carries the status and `info`,
`n = 0` and no output data (R188); the state is `s`, the one the rule's assignments before the
`raise` left. Nothing is saved and control goes nowhere (R183). There is no return from an error:
the next command runs as usual (R189). -/
def raise (st : Status) (info : BitVec 8) (s : State) : Result := .next (s.respond ⟨st, info, 0, []⟩)

/-- `return (OK, n, out)` (R9). -/
def finish (n : Int) (out : Bytes) (s : State) : Result := .next (s.respond ⟨.ok, 0, n, out⟩)

/-- `refuse` (R186): the command has no meaning and the machine no transition. -/
def refuse (r : Refusal) : Result := .refused r

/-- The rest of a rule that writes `E(CK, .)`, given the key in `CK`. R92 says the key is present;
without one the machine is stuck (log 11). -/
def withKey (s : State) (f : Key → Result) : Result :=
  match s.ck with
  | some k => f k
  | none => .fault .cipherNotKeyed

/-- The next event leaves the port (R80). -/
def State.takeEvent (s : State) (rest : List PortEvent) : State := { s with port := rest }

/-! ## GHASH registers -/

/-- The assignments of `GHASH.INIT` (R100), also a step of `GCM.INIT` (R140). -/
def State.loadSubkey (s : State) (h : Block) : State :=
  { s with h0 := word0 h, h1 := word1 h, s0 := 0, s1 := 0, ghSv := false, ghInit := true }

/-- Write the accumulator (R24). -/
def State.setAcc (s : State) (z : Word × Word) : State := { s with s0 := z.1, s1 := z.2 }

/-- Zero the accumulator (R103, R104, R143, R148). -/
def State.clearAcc (s : State) : State := s.setAcc (0, 0)

/-- The assignments of `GHASH.SAVE` (R105), also a step of `GCM.SAVE` (R149). -/
def State.saveAcc (s : State) : State := { s with ss0 := s.s0, ss1 := s.s1, ghSv := true }

/-- The assignments of `GHASH.RESTORE` (R106), also a step of `GCM.RESTORE` (R150). -/
def State.restoreAcc (s : State) : State := s.setAcc (s.ss0, s.ss1)

/-- The accumulator as a block, first half first (R8, R103). -/
def State.accBlock (s : State) : Block := blockOfWords s.s0 s.s1

/-- `process_block(X)` (R102). -/
def processBlock (x : Block) (s : State) : State :=
  s.setAcc (ghashStep s.h0 s.h1 (s.s0, s.s1) x)

/-- `absorb(d)` (R153): `process_block` of each successive block, in order. -/
def absorb (d : Bytes) (s : State) : State :=
  (chunks d).foldl (fun s c => processBlock (blockOfBytes c) s) s

/-! ## GCTR registers -/

/-- The assignments of `GCTR.INIT` (R120), also a step of `GCM.INIT` (R140). -/
def State.loadCounter (s : State) (b : Block) : State :=
  { s with icb := b, ctr := b, gcSv := false, gcInit := true }

/-- Write the counter (R28). -/
def State.setCtr (s : State) (b : Block) : State := { s with ctr := b }

/-- `CTR <- ICB` (R122, R154). -/
def State.rewindCtr (s : State) : State := s.setCtr s.icb

/-- The assignments of `GCTR.RESET` (R123), also a step of `GCM.RESET` (R148). -/
def State.resetCtr (s : State) : State := { s with ctr := s.icb, gcSv := false }

/-- The assignments of `GCTR.SAVE` (R124), also a step of `GCM.SAVE` (R149). -/
def State.saveCtr (s : State) : State := { s with ctrs := s.ctr, gcSv := true }

/-- The assignments of `GCTR.RESTORE` (R125), also a step of `GCM.RESTORE` (R150). -/
def State.restoreCtr (s : State) : State := s.setCtr s.ctrs

/-- The output of `keystream(d)` (R154); `e` is `E(CK, .)`. -/
def keystreamOut (e : Block → Block) (d : Bytes) (s : State) : Bytes := (gctrFn e s.ctr d).1

/-- The state after `keystream(d)` (R154). -/
def keystreamAdvance (e : Block → Block) (d : Bytes) (s : State) : State :=
  s.setCtr (gctrFn e s.ctr d).2

/-- The state after `keystream_final(d)` (R154): `keystream(d)`, then `CTR <- ICB`. -/
def keystreamFinal (e : Block → Block) (d : Bytes) (s : State) : State :=
  (keystreamAdvance e d s).rewindCtr

/-! ## Orchestrator registers -/

/-- Write `PHASE` (R22). -/
def State.setPhase (s : State) (p : Phase) : State := { s with phase := p }

/-- Write `CK`: the cipher port's `set_key` with an accepted key (R31, R91). -/
def State.setKey (s : State) (k : Key) : State := { s with ck := some k }

/-- Append to `AAD` (R35, R141). -/
def State.appendAad (s : State) (d : Bytes) : State := { s with aad := s.aad ++ d }

/-- Append to `IBUF` (R38, R146, R147). -/
def State.appendIbuf (s : State) (d : Bytes) : State := { s with ibuf := s.ibuf ++ d }

/-- `PROC <- PROC + n` (R37). -/
def State.addProc (s : State) (n : Nat) : State := { s with proc := s.proc + n }

/-- The assignments of the sealing step after the associated data is absorbed (R142). -/
def State.sealRegs (s : State) : State :=
  { s with aadlen := s.aad.length, aad := [], phase := .sealed }

/-- The parameters of an operation that `GCM.INIT` fixes (R32, R33, R34). -/
def State.setOperation (s : State) (dec : Bool) (taglen : Nat) (j0 : Block) : State :=
  { s with dec := dec, taglen := taglen, j0 := j0 }

/-- The buffers and counters as `GCM.INIT` leaves them (R140). -/
def State.clearBuffers (s : State) : State :=
  { s with aad := [], aadlen := 0, proc := 0, ibuf := [], gmSv := false, phase := .init }

/-- The buffers and counters as `GCM.RESET` leaves them: `IBUF` emptied only when `DEC` (R148). -/
def State.resetBuffers (s : State) : State :=
  { s with
    aad := []
    aadlen := 0
    proc := 0
    ibuf := if s.dec then [] else s.ibuf
    phase := .init }

/-- The orchestrator's own part of `GCM.SAVE` (R149). -/
def State.saveOperation (s : State) : State :=
  { s with
    sPhase := s.phase
    sAad := s.aad
    sAadlen := s.aadlen
    sProc := s.proc
    sIbuf := s.ibuf
    gmSv := true }

/-- The orchestrator's own part of `GCM.RESTORE` (R150). -/
def State.restoreOperation (s : State) : State :=
  { s with
    phase := s.sPhase
    aad := s.sAad
    aadlen := s.sAadlen
    proc := s.sProc
    ibuf := s.sIbuf }

/-- `seal_aad()` (R142): on the first payload command, absorb the padded associated data, record its
length and discard it; in any other phase, nothing. -/
def sealAad (s : State) : State :=
  if s.phase = .init then (absorb (pad16 s.aad) s).sealRegs else s

/-- The state of `compute_tag()` once the length block is absorbed (R143). -/
def absorbLengths (s : State) : State := absorb (lenBlock s.aadlen s.proc) s

/-- The result of `compute_tag()` (R143), a pure function of the registers: the GCTR unit is not
touched (`90_conflicts.md` C10). `e` is `E(CK, .)`. -/
def computeTag (e : Block → Block) (s : State) : Bytes :=
  tagFn e s.j0 (absorbLengths s).accBlock s.taglen

/-- The state after `compute_tag()` (R143): the accumulator is zero. -/
def afterTag (s : State) : State := (absorbLengths s).clearAcc

end Sys2Proof.Machine
end

