-- ==== Sys2Proof/Machine/Gcm.lean ====
section
/-! DEFINITION. The orchestrator's commands (`42_gcm.md` rules R140 to R152). A command that needs
the open parameters of R6 is written over them (`gcmInitWith p` ...); the meaning of the instruction
takes the machine's own. In every rule the checks come first, in the order written (D12). -/

namespace Sys2Proof.Machine

/-! ## GCM.INIT -/

/-- The assignments of `GCM.INIT` (R140) with an accepted key: `CK`, then `GHASH.INIT E(CK, 0^16)`,
then `GCTR.INIT inc32(J0)`, then the operation's own registers; `e` is `E(key, .)`. -/
def State.startOperation (s : State) (e : Block → Block) (dec : Bool) (key iv : Bytes)
    (taglen : Nat) : State :=
  ((((s.setKey key).loadSubkey (e 0)).loadCounter (inc32 (j0Fn (e 0) iv))).setOperation dec taglen
    (j0Fn (e 0) iv)).clearBuffers

/-- `GCM.INIT dec, key, iv, taglen` (R140) over the parameters `p`. -/
def gcmInitWith (p : Params) (dec : Bool) (key iv : Option Bytes) (taglen : Nat) (s : State) :
    Result :=
  match key, iv with
  | some k, some v =>
    if p.keyOk k = false then raise .invalidKey 0 s
    else if taglen < 1 ∨ taglen > 16 then refuse .tagLength
    else if v.length > maxLen then refuse .lengthLimit
    else finish 0 [] (s.startOperation (p.encrypt k) dec k v taglen)
  | none, _ => raise .invalidKey 0 s
  | some _, none => raise .invalidKey 0 s

/-- `GCM.INIT dec, key, iv, taglen` (R140). -/
def execGcmInit (dec : Bool) (key iv : Option Bytes) (taglen : Nat) (s : State) : Result :=
  gcmInitWith Config.params dec key iv taglen s

/-! ## Associated data -/

/-- `GCM.UPDATE_AAD data, ofs, len` (R141) over the parameters `p`. -/
def gcmUpdateAadWith (p : Params) (data : Bytes) (ofs len : Int) (s : State) : Result :=
  if s.phase ≠ .init then raise .illegalState 0 s
  else if inOperand data ofs len = false then refuse .operandBounds
  else if s.aad.length + len.toNat > maxLen then refuse .lengthLimit
  else if withinCap p.aadCap (s.aad.length + len.toNat) = false then refuse .bufferCapacity
  else finish 0 [] (s.appendAad (memRead data ofs len))

/-- `GCM.UPDATE_AAD data, ofs, len` (R141). -/
def execGcmUpdateAad (data : Bytes) (ofs len : Int) (s : State) : Result :=
  gcmUpdateAadWith Config.params data ofs len s

/-! ## Encryption -/

/-- The ciphertext of `GCM.ENCRYPT` and `GCM.ENCRYPT_FINAL` for the payload `d` (R144, R145): the
associated data is sealed first, then the keystream is applied. -/
def ciphertext (e : Block → Block) (d : Bytes) (s : State) : Bytes := keystreamOut e d (sealAad s)

/-- The state after `GCM.ENCRYPT` of the payload `d` (R144): the ciphertext is absorbed, not the
plaintext. -/
def afterEncrypt (e : Block → Block) (d : Bytes) (s : State) : State :=
  (absorb (ciphertext e d s) (keystreamAdvance e d (sealAad s))).addProc d.length

/-- `GCM.ENCRYPT in, len, out_cap` (R144) over the parameters `p`. -/
def gcmEncryptWith (p : Params) (input : Bytes) (len outCap : Int) (s : State) : Result :=
  if payloadLegal false s = false then raise .illegalState 0 s
  else if len % 16 ≠ 0 then raise .internalError 0 s
  else if inOperand input 0 len = false ∨ len > outCap then refuse .operandBounds
  else if s.proc + len.toNat > maxLen then refuse .lengthLimit
  else withKey s fun k =>
    finish len (memWrite [] 0 (ciphertext (p.encrypt k) (memRead input 0 len) s))
      (afterEncrypt (p.encrypt k) (memRead input 0 len) s)

/-- `GCM.ENCRYPT in, len, out_cap` (R144). -/
def execGcmEncrypt (input : Bytes) (len outCap : Int) (s : State) : Result :=
  gcmEncryptWith Config.params input len outCap s

/-- The state of `GCM.ENCRYPT_FINAL` of the payload `d` before its tag is computed (R145): the
counter is back at `ICB`, the padded ciphertext is absorbed and counted. -/
def beforeEncryptTag (e : Block → Block) (d : Bytes) (s : State) : State :=
  (absorb (pad16 (ciphertext e d s)) (keystreamFinal e d (sealAad s))).addProc d.length

/-- `GCM.ENCRYPT_FINAL in, len, out_cap` (R145) over the parameters `p`. -/
def gcmEncryptFinalWith (p : Params) (input : Bytes) (len outCap : Int) (s : State) : Result :=
  if payloadLegal false s = false then raise .illegalState 0 s
  else if inOperand input 0 len = false then refuse .operandBounds
  else if s.proc + len.toNat > maxLen then refuse .lengthLimit
  else if outCap < len + s.taglen then raise .shortBuffer 0 s
  else withKey s fun k =>
    let d := memRead input 0 len
    let s' := beforeEncryptTag (p.encrypt k) d s
    finish (len + s.taglen)
      (memWrite (memWrite [] 0 (ciphertext (p.encrypt k) d s)) d.length
        (computeTag (p.encrypt k) s'))
      ((afterTag s').setPhase .final)

/-- `GCM.ENCRYPT_FINAL in, len, out_cap` (R145). -/
def execGcmEncryptFinal (input : Bytes) (len outCap : Int) (s : State) : Result :=
  gcmEncryptFinalWith Config.params input len outCap s

/-! ## Decryption -/

/-- `GCM.DECRYPT in, len, out_cap` (R146) over the parameters `p`; `out_cap` is ignored. -/
def gcmDecryptWith (p : Params) (input : Bytes) (len _outCap : Int) (s : State) : Result :=
  if payloadLegal true s = false then raise .illegalState 0 s
  else if inOperand input 0 len = false then refuse .operandBounds
  else if s.ibuf.length + len.toNat > maxLen then refuse .lengthLimit
  else if withinCap p.ibufCap (s.ibuf.length + len.toNat) = false then refuse .bufferCapacity
  else finish 0 [] ((sealAad s).appendIbuf (memRead input 0 len))

/-- `GCM.DECRYPT in, len, out_cap` (R146). -/
def execGcmDecrypt (input : Bytes) (len outCap : Int) (s : State) : Result :=
  gcmDecryptWith Config.params input len outCap s

/-- The state of `GCM.DECRYPT_FINAL` once the associated data is sealed and the last input `d` is
buffered (R147). -/
def received (d : Bytes) (s : State) : State := (sealAad s).appendIbuf d

/-- The true ciphertext: the buffer but its last `TAGLEN` bytes (R147). -/
def trueCiphertext (s : State) : Bytes := s.ibuf.take (s.ibuf.length - s.taglen)

/-- The received tag: the last `TAGLEN` bytes of the buffer (R147). -/
def receivedTag (s : State) : Bytes := s.ibuf.drop (s.ibuf.length - s.taglen)

/-- The state of `GCM.DECRYPT_FINAL` before the expected tag is computed, from the state `s` with
everything buffered (R147): the ciphertext absorbed and counted, the counter back at `ICB`. -/
def beforeDecryptTag (e : Block → Block) (s : State) : State :=
  (keystreamFinal e (trueCiphertext s) (absorb (pad16 (trueCiphertext s)) s)).addProc
    (trueCiphertext s).length

/-- `GCM.DECRYPT_FINAL in, len, out_cap` (R147) over the parameters `p`. The plaintext reaches the
response only when the tags are equal (R158); on a mismatch the state is that of success and the
output is withheld (R184). -/
def gcmDecryptFinalWith (p : Params) (input : Bytes) (len outCap : Int) (s : State) : Result :=
  if payloadLegal true s = false then raise .illegalState 0 s
  else if inOperand input 0 len = false then refuse .operandBounds
  else if s.ibuf.length + len.toNat > maxLen then refuse .lengthLimit
  else if withinCap p.ibufCap (s.ibuf.length + len.toNat) = false then refuse .bufferCapacity
  else if s.ibuf.length + len.toNat < s.taglen then raise .aeadBadTag infoNeedTag s
  else if outCap < (s.ibuf.length : Int) + len - s.taglen then raise .shortBuffer 0 s
  else withKey s fun k =>
    let r := received (memRead input 0 len) s
    let s' := beforeDecryptTag (p.encrypt k) r
    let done := (afterTag s').setPhase .final
    if tagEqual (computeTag (p.encrypt k) s') (receivedTag r) = false then
      raise .aeadBadTag infoTagMismatch done
    else
      finish (trueCiphertext r).length
        (memWrite [] 0 (keystreamOut (p.encrypt k) (trueCiphertext r) r)) done

/-- `GCM.DECRYPT_FINAL in, len, out_cap` (R147). -/
def execGcmDecryptFinal (input : Bytes) (len outCap : Int) (s : State) : Result :=
  gcmDecryptFinalWith Config.params input len outCap s

/-! ## Managing the operation -/

/-- `GCM.RESET` (R148): back to just after `GCM.INIT`, with the same key and IV. -/
def execGcmReset (s : State) : Result :=
  if gcmReady s = false then raise .illegalState 0 s
  else finish 0 [] s.resetCtr.clearAcc.resetBuffers

/-- `GCM.SAVE` (R149). -/
def execGcmSave (s : State) : Result :=
  if gcmReady s = false then raise .illegalState 0 s
  else finish 0 [] s.saveOperation.saveCtr.saveAcc

/-- `GCM.RESTORE` (R150): needs all three snapshot bits, which stay set. -/
def execGcmRestore (s : State) : Result :=
  if gcmRestorable s = false then raise .illegalState 0 s
  else finish 0 [] s.restoreOperation.restoreCtr.restoreAcc

/-- `GCM.GET_TAG_LENGTH` (R151). -/
def execGcmGetTagLength (s : State) : Result := finish s.taglen [] s

/-- `GCM.GET_BUFFERED_LENGTH` (R152): 0 when encrypting. -/
def execGcmGetBufferedLength (s : State) : Result :=
  finish (if s.dec then (s.ibuf.length : Int) else 0) [] s

end Sys2Proof.Machine
end

