-- ==== Sys2Proof/Machine/Gctr.lean ====
section
/-! DEFINITION. The GCTR unit's commands (`41_gctr.md` rules R120 to R125). A command that needs the
collaborator is written over the parameters `p` of R6 (`gctrUpdateWith` ...); the meaning of the
instruction takes the machine's own parameters. -/

namespace Sys2Proof.Machine

/-- `GCTR.INIT icb` (R120). -/
def execGctrInit (icb : Bytes) (s : State) : Result :=
  if s.ck = none then raise .illegalState 0 s
  else if icb.length ≠ 16 then raise .invalidParameter 0 s
  else finish 0 [] (s.loadCounter (blockOfBytes icb))

/-- `GCTR.UPDATE in, len, out_cap` (R121) over the parameters `p`. -/
def gctrUpdateWith (p : Params) (input : Bytes) (len outCap : Int) (s : State) : Result :=
  if s.gcInit = false then raise .illegalState 0 s
  else if wholeBlocks len = false ∨ len > input.length ∨ len > outCap then
    raise .internalSizeError 0 s
  else withKey s fun k =>
    finish len (memWrite [] 0 (keystreamOut (p.encrypt k) (memRead input 0 len) s))
      (keystreamAdvance (p.encrypt k) (memRead input 0 len) s)

/-- `GCTR.UPDATE in, len, out_cap` (R121). -/
def execGctrUpdate (input : Bytes) (len outCap : Int) (s : State) : Result :=
  gctrUpdateWith Config.params input len outCap s

/-- `GCTR.DOFINAL in, len, out_cap` (R122) over the parameters `p`: the counter is reset on every
exit but the one where the unit is not initialised (R184). -/
def gctrDofinalWith (p : Params) (input : Bytes) (len outCap : Int) (s : State) : Result :=
  if s.gcInit = false then raise .illegalState 0 s
  else if len < 0 then raise .illegalBlockSize 0 s.rewindCtr
  else if len > input.length ∨ len > outCap then raise .internalSizeError 0 s.rewindCtr
  else withKey s fun k =>
    finish len (memWrite [] 0 (keystreamOut (p.encrypt k) (memRead input 0 len) s))
      (keystreamFinal (p.encrypt k) (memRead input 0 len) s)

/-- `GCTR.DOFINAL in, len, out_cap` (R122). -/
def execGctrDofinal (input : Bytes) (len outCap : Int) (s : State) : Result :=
  gctrDofinalWith Config.params input len outCap s

/-- `GCTR.RESET` (R123): the snapshot is cleared. -/
def execGctrReset (s : State) : Result :=
  if s.gcInit = false then raise .illegalState 0 s
  else finish 0 [] s.resetCtr

/-- `GCTR.SAVE` (R124). -/
def execGctrSave (s : State) : Result :=
  if s.gcInit = false then raise .illegalState 0 s
  else finish 0 [] s.saveCtr

/-- `GCTR.RESTORE` (R125): the snapshot stays valid. -/
def execGctrRestore (s : State) : Result :=
  if gctrRestorable s = false then raise .illegalState 0 s
  else finish 0 [] s.restoreCtr

end Sys2Proof.Machine
end

