-- ==== Sys2Proof/Machine/Ghash.lean ====
section
/-! DEFINITION. The GHASH unit's commands (`40_ghash.md` rules R100 to R106). -/

namespace Sys2Proof.Machine

/-- `GHASH.INIT subkey` (R100). -/
def execGhashInit (subkey : Bytes) (s : State) : Result :=
  if subkey.length ≠ 16 then raise .invalidSubkey 0 s
  else finish 0 [] (s.loadSubkey (blockOfBytes subkey))

/-- `GHASH.UPDATE data, ofs, len` (R101). -/
def execGhashUpdate (data : Bytes) (ofs len : Int) (s : State) : Result :=
  if s.ghInit = false then raise .illegalState 0 s
  else if wholeBlocks len = false then raise .unsupportedLength 0 s
  else if inOperand data ofs len = false then refuse .operandBounds
  else finish 0 [] (absorb (memRead data ofs len) s)

/-- `GHASH.DIGEST` (R103): destructive. -/
def execGhashDigest (s : State) : Result :=
  if s.ghInit = false then raise .illegalState 0 s
  else finish 16 (bytesOfWord s.s0 ++ bytesOfWord s.s1) s.clearAcc

/-- `GHASH.RESET` (R104): the subkey and the snapshot are kept. -/
def execGhashReset (s : State) : Result :=
  if s.ghInit = false then raise .illegalState 0 s
  else finish 0 [] s.clearAcc

/-- `GHASH.SAVE` (R105). -/
def execGhashSave (s : State) : Result :=
  if s.ghInit = false then raise .illegalState 0 s
  else finish 0 [] s.saveAcc

/-- `GHASH.RESTORE` (R106): the snapshot stays valid. -/
def execGhashRestore (s : State) : Result :=
  if ghashRestorable s = false then raise .illegalState 0 s
  else finish 0 [] s.restoreAcc

end Sys2Proof.Machine
end

