-- ==== Sys2Proof/Machine/Dispatch.lean ====
section
/-! DEFINITION. The meaning of each command: one arm per row of `30_encoding.md` rule R84. -/

namespace Sys2Proof.Machine

def exec (i : Instr) (s : State) : Host.Outcome State Fault Refusal :=
  match i with
  | .ghashInit subkey => Sys2Proof.Machine.execGhashInit subkey s
  | .ghashUpdate data ofs len => Sys2Proof.Machine.execGhashUpdate data ofs len s
  | .ghashDigest => Sys2Proof.Machine.execGhashDigest s
  | .ghashReset => Sys2Proof.Machine.execGhashReset s
  | .ghashSave => Sys2Proof.Machine.execGhashSave s
  | .ghashRestore => Sys2Proof.Machine.execGhashRestore s
  | .gctrInit icb => Sys2Proof.Machine.execGctrInit icb s
  | .gctrUpdate input len outCap => Sys2Proof.Machine.execGctrUpdate input len outCap s
  | .gctrDofinal input len outCap => Sys2Proof.Machine.execGctrDofinal input len outCap s
  | .gctrReset => Sys2Proof.Machine.execGctrReset s
  | .gctrSave => Sys2Proof.Machine.execGctrSave s
  | .gctrRestore => Sys2Proof.Machine.execGctrRestore s
  | .gcmInit dec key iv taglen => Sys2Proof.Machine.execGcmInit dec key iv taglen s
  | .gcmUpdateAad data ofs len => Sys2Proof.Machine.execGcmUpdateAad data ofs len s
  | .gcmEncrypt input len outCap => Sys2Proof.Machine.execGcmEncrypt input len outCap s
  | .gcmEncryptFinal input len outCap => Sys2Proof.Machine.execGcmEncryptFinal input len outCap s
  | .gcmDecrypt input len outCap => Sys2Proof.Machine.execGcmDecrypt input len outCap s
  | .gcmDecryptFinal input len outCap => Sys2Proof.Machine.execGcmDecryptFinal input len outCap s
  | .gcmReset => Sys2Proof.Machine.execGcmReset s
  | .gcmSave => Sys2Proof.Machine.execGcmSave s
  | .gcmRestore => Sys2Proof.Machine.execGcmRestore s
  | .gcmGetTagLength => Sys2Proof.Machine.execGcmGetTagLength s
  | .gcmGetBufferedLength => Sys2Proof.Machine.execGcmGetBufferedLength s

end Sys2Proof.Machine
end

