-- ==== Sys2Proof/Machine/Port.lean ====
section
/-! DEFINITION. What the machine does with each event at its boundary (`30_encoding.md` rules R80,
R86, R88; `70_reset_and_hazards.md` rule R210). -/

namespace Sys2Proof.Machine

/-- One command from the command port (R80): an illegal word gets `IllegalCommand` and changes
nothing (R88); what is no command of the interface is refused (R86, log 9); a command has its
meaning. `s` is the state with the command already taken. -/
def runCommand (c : Command) (s : State) : Result :=
  match decode c with
  | .ok i => exec i s
  | .error .illegalCommand => raise .illegalCommand 0 s
  | .error .missingOperand => refuse .missingOperand
  | .error .operandTooLong => refuse .operandTooLong

/-- Hardware reset (R210): every register as R44 says, no response; the events still to come are
the outside's and stay (log 7). -/
def hardwareReset (rest : List PortEvent) : Result := .next (State.reset.takeEvent rest)

/-- One step: the next event at the port; with none the hardware is idle and its state unchanged
(R190). -/
def runEvent (s : State) : Result :=
  match s.port with
  | [] => .next s
  | .command c :: rest => runCommand c (s.takeEvent rest)
  | .hardwareReset :: rest => hardwareReset rest

/-- The command of the opcode table's word `w` presented as the next event (log 10). -/
def presentWord (s : State) (nbits w : Nat) : State :=
  { s with port := .command (tableCommand nbits w) :: s.port }

end Sys2Proof.Machine
end

