-- ==== Sys2Proof/Machine/Step.lean ====
section
/-! DEFINITION. The step of the machine, and where a test's command is placed for it. -/

namespace Sys2Proof.Machine

/-- One step of the machine (`runEvent`): one event of the port. -/
def step (s : State) : Host.Outcome State Fault Refusal := runEvent s

/-- `s` with the opcode table's word `w`, operands zero, as the next command on the command port
(log 10). -/
def State.withFetchWord (s : State) (nbits w : Nat) : State := presentWord s nbits w

end Sys2Proof.Machine
end

