-- ==== Sys2Proof/Safety.lean ====
section
/-! DEFINITION. The terms the claims use: what a response and a state say about a run, which states a
run can reach (`10_state.md` rule R43), and runs of several commands. The machine itself does not
use this file. -/

namespace Sys2Proof.Safety

open Sys2Proof.Machine

/-! ## Answers -/

/-- The machine answers an error: status and `info`, `n = 0`, no output data (R183, R188). -/
def errorAnswer (st : Status) (info : BitVec 8) (s : State) : Result :=
  .next { s with response := some ⟨st, info, 0, []⟩ }

/-- The machine answers `OK` with `n` and the output data (R87). -/
def okAnswer (n : Int) (out : Bytes) (s : State) : Result :=
  .next { s with response := some ⟨.ok, 0, n, out⟩ }

/-- The two states have the same value in every register of R20; the ports may differ. -/
def sameRegisters (s t : State) : Prop :=
  { s with port := [], response := none } = { t with port := [], response := none }

/-! ## Reset (R44) -/

/-- The registers to which R44 gives a value have that value; the ones it leaves open, and the ports,
are free. -/
structure StatedResetValues (s : State) : Prop where
  phase : s.phase = .uninit
  ghInit : s.ghInit = false
  gcInit : s.gcInit = false
  ghSv : s.ghSv = false
  gcSv : s.gcSv = false
  gmSv : s.gmSv = false
  ck : s.ck = none
  dec : s.dec = false
  taglen : s.taglen = 16
  aad : s.aad = []
  ibuf : s.ibuf = []
  aadlen : s.aadlen = 0
  proc : s.proc = 0

/-! ## Runs of commands -/

/-- Run commands one after the other (R69) and collect their responses; `none` if one of them is
refused or faults. -/
def runInstrs : List Instr → State → Option (State × List Response)
  | [], s => some (s, [])
  | i :: is, s =>
    match exec i s with
    | .next t =>
      match t.response, runInstrs is t with
      | some r, some (u, rs) => some (u, r :: rs)
      | _, _ => none
    | .fault _ => none
    | .refused _ => none

/-- All the output data of a list of responses, in order. -/
def outputs (rs : List Response) : Bytes := (rs.map Response.out).flatten

/-! ## Which states a run can reach (R43) -/

/-- The first 12 bytes of a block, as a number (R28). -/
def prefix12 (b : Block) : BitVec 96 := b.extractLsb' 32 96

/-- The clauses (a) to (h) of R43, letter for letter. -/
structure ReachableClauses (s : State) : Prop where
  /-- (a) -/
  ready : s.phase ≠ .uninit → s.ghInit = true ∧ s.gcInit = true ∧ s.ck ≠ none
  /-- (b) -/
  aadOnlyInInit : s.phase ≠ .init → s.aad = []
  /-- (c) -/
  ibufOnlyInDec : s.dec = false → s.ibuf = []
  /-- (d) -/
  tagLength : 1 ≤ s.taglen ∧ s.taglen ≤ 16
  /-- (e), the limits -/
  limits : s.aad.length ≤ maxLen ∧ s.aadlen ≤ maxLen ∧ s.proc ≤ maxLen ∧ s.ibuf.length ≤ maxLen
  /-- (e), the capacities -/
  capacities : withinCap Config.aadCap s.aad.length = true ∧
    withinCap Config.ibufCap s.ibuf.length = true
  /-- (f), the counter -/
  counter : s.gcInit = true → prefix12 s.ctr = prefix12 s.icb
  /-- (f), the saved counter -/
  savedCounter : s.gcSv = true → prefix12 s.ctrs = prefix12 s.icb
  /-- (g) -/
  keyed : s.gcInit = true → s.ck ≠ none
  /-- (h) -/
  savedPhase : s.gmSv = true → s.phase ≠ .uninit ∧ s.sPhase ≠ .uninit

/-- What must hold of the orchestrator's snapshot, and of `PROC` while a decryption is open, for the
clauses of R43 to survive `GCM.RESTORE` and `GCM.DECRYPT_FINAL`. -/
structure SnapshotClauses (s : State) : Prop where
  savedAadOnlyInInit : s.gmSv = true → s.sPhase ≠ .init → s.sAad = []
  savedIbufOnlyInDec : s.gmSv = true → s.dec = false → s.sIbuf = []
  savedLimits : s.gmSv = true →
    s.sAad.length ≤ maxLen ∧ s.sAadlen ≤ maxLen ∧ s.sProc ≤ maxLen ∧ s.sIbuf.length ≤ maxLen
  savedCapacities : s.gmSv = true → withinCap Config.aadCap s.sAad.length = true ∧
    withinCap Config.ibufCap s.sIbuf.length = true
  openDecryption : s.dec = true → s.phase = .init ∨ s.phase = .sealed → s.proc = 0
  savedOpenDecryption : s.gmSv = true → s.dec = true → s.sPhase = .init ∨ s.sPhase = .sealed →
    s.sProc = 0

/-- The invariant of the machine: R43 and what makes it inductive. -/
def Inv (s : State) : Prop := ReachableClauses s ∧ SnapshotClauses s

/-! ## Groups of commands -/

/-- The commands of the GHASH unit. -/
def isGhash : Instr → Bool
  | .ghashInit _ | .ghashUpdate _ _ _ | .ghashDigest | .ghashReset | .ghashSave | .ghashRestore =>
    true
  | _ => false

/-- The commands of the GCTR unit. -/
def isGctr : Instr → Bool
  | .gctrInit _ | .gctrUpdate _ _ _ | .gctrDofinal _ _ _ | .gctrReset | .gctrSave | .gctrRestore =>
    true
  | _ => false

/-- `GHASH.INIT`. -/
def isGhashInit : Instr → Bool
  | .ghashInit _ => true
  | _ => false

/-- `GCTR.INIT`. -/
def isGctrInit : Instr → Bool
  | .gctrInit _ => true
  | _ => false

/-- `GCM.INIT`. -/
def isGcmInit : Instr → Bool
  | .gcmInit _ _ _ _ => true
  | _ => false

/-- The commands that feed an operation: associated data, payload and finals (property P4 of
`95_test_vectors.md` section 6). -/
def feedsOperation : Instr → Bool
  | .gcmUpdateAad _ _ _ | .gcmEncrypt _ _ _ | .gcmEncryptFinal _ _ _ | .gcmDecrypt _ _ _
  | .gcmDecryptFinal _ _ _ => true
  | _ => false

/-- The orchestrator commands other than `GCM.INIT`, `GCM.RESET` and `GCM.SAVE` (property P5). -/
def keepsSnapshot : Instr → Bool
  | .gcmUpdateAad _ _ _ | .gcmEncrypt _ _ _ | .gcmEncryptFinal _ _ _ | .gcmDecrypt _ _ _
  | .gcmDecryptFinal _ _ _ | .gcmRestore | .gcmGetTagLength | .gcmGetBufferedLength => true
  | _ => false

/-- The commands that write the saved accumulator or its valid bit (R26). -/
def writesSavedAcc : Instr → Bool
  | .ghashInit _ | .ghashSave | .gcmInit _ _ _ _ | .gcmSave => true
  | _ => false

/-- The commands that write the saved counter or its valid bit (R30). -/
def writesSavedCtr : Instr → Bool
  | .gctrInit _ | .gctrReset | .gctrSave | .gcmInit _ _ _ _ | .gcmReset | .gcmSave => true
  | _ => false

/-- The commands that can succeed right after hardware reset (R212). -/
def succeedsAfterReset : Instr → Bool
  | .ghashInit _ | .gcmInit _ _ _ _ | .gcmGetTagLength | .gcmGetBufferedLength => true
  | _ => false

/-! ## Tables of `60_exceptions.md` and `10_state.md` -/

/-- The payload commands of the direction `wantDec` are not legal: `PHASE` is neither `INIT` nor
`SEALED`, or `DEC` is the other direction (R155, R182). -/
abbrev payloadIllegal (wantDec : Bool) (s : State) : Prop :=
  (s.phase ≠ .init ∧ s.phase ≠ .sealed) ∨ s.dec ≠ wantDec

/-- The causes of `IllegalState`, row by row (R182). -/
def illegalStateCause (i : Instr) (s : State) : Prop :=
  match i with
  | .gcmUpdateAad _ _ _ => s.phase ≠ .init
  | .ghashUpdate _ _ _ => s.ghInit = false
  | .ghashDigest => s.ghInit = false
  | .ghashReset => s.ghInit = false
  | .ghashSave => s.ghInit = false
  | .ghashRestore => s.ghInit = false ∨ s.ghSv = false
  | .gctrInit _ => s.ck = none
  | .gctrUpdate _ _ _ => s.gcInit = false
  | .gctrDofinal _ _ _ => s.gcInit = false
  | .gctrReset => s.gcInit = false
  | .gctrSave => s.gcInit = false
  | .gctrRestore => s.gcInit = false ∨ s.gcSv = false
  | .gcmEncrypt _ _ _ => payloadIllegal false s
  | .gcmEncryptFinal _ _ _ => payloadIllegal false s
  | .gcmDecrypt _ _ _ => payloadIllegal true s
  | .gcmDecryptFinal _ _ _ => payloadIllegal true s
  | .gcmReset => s.phase = .uninit
  | .gcmSave => s.phase = .uninit
  | .gcmRestore => s.phase = .uninit ∨ s.gmSv = false ∨ s.gcSv = false ∨ s.ghSv = false
  | .ghashInit _ => False
  | .gcmInit _ _ _ _ => False
  | .gcmGetTagLength => False
  | .gcmGetBufferedLength => False

/-- A total of `n` bytes is beyond `MAXLEN` or beyond a capacity (R186). -/
def beyond (cap : Option Nat) (n : Int) : Prop :=
  n > maxLen ∨ ∃ c, cap = some c ∧ n > c

/-- The refused cases, row by row, of a command that raises no named error before its refusal line
(R185, R186). -/
def refusedCase (i : Instr) (s : State) : Prop :=
  match i with
  | .ghashUpdate data ofs len =>
    (0 ≤ len ∧ len % 16 = 0) ∧ (ofs < 0 ∨ ofs + len > data.length)
  | .gcmUpdateAad data ofs len =>
    (ofs < 0 ∨ len < 0 ∨ ofs + len > data.length) ∨ beyond Config.aadCap (s.aad.length + len)
  | .gcmEncrypt input len outCap =>
    len % 16 = 0 ∧ ((len < 0 ∨ len > input.length ∨ len > outCap) ∨ s.proc + len > maxLen)
  | .gcmEncryptFinal input len _ => (len < 0 ∨ len > input.length) ∨ s.proc + len > maxLen
  | .gcmDecrypt input len _ =>
    (len < 0 ∨ len > input.length) ∨ beyond Config.ibufCap (s.ibuf.length + len)
  | .gcmDecryptFinal input len _ =>
    (len < 0 ∨ len > input.length) ∨ beyond Config.ibufCap (s.ibuf.length + len)
  | .gcmInit _ (some key) (some iv) taglen =>
    Config.keyOk key = true ∧ (taglen < 1 ∨ taglen > 16 ∨ iv.length > maxLen)
  | _ => False

/-- The phase after a command that takes effect, from `PHASE` and `S_PHASE`; `none` where the
table of R22 has no such row. -/
def phaseMove (i : Instr) (phase saved : Phase) : Option Phase :=
  match i with
  | .gcmInit _ _ _ _ => some .init
  | .gcmUpdateAad _ _ _ => if phase = .init then some .init else none
  | .gcmEncrypt _ _ _ | .gcmDecrypt _ _ _ =>
    if phase = .init ∨ phase = .sealed then some .sealed else none
  | .gcmEncryptFinal _ _ _ | .gcmDecryptFinal _ _ _ =>
    if phase = .init ∨ phase = .sealed then some .final else none
  | .gcmReset => if phase = .uninit then none else some .init
  | .gcmRestore => if phase = .uninit then none else some saved
  | _ => some phase

/-- A command word is legal by the fields of R82 and the `OP` values of R84: reserved bits 0, `OP`
in the table, `D` and `TL` zero but for `GCM.INIT` (R88). -/
def legalWord (cw : BitVec 32) : Bool :=
  let op := (cw.extractLsb' 0 8).toNat
  ((0x10 ≤ op && op ≤ 0x15) || (0x20 ≤ op && op ≤ 0x25) || (0x30 ≤ op && op ≤ 0x3A)) &&
    cw.extractLsb' 9 7 == 0#7 && cw.extractLsb' 24 8 == 0#8 &&
    (op == 0x30 || (cw.extractLsb' 8 1 == 0#1 && cw.extractLsb' 16 8 == 0#8))

/-- The two command records agree in the command word and in the slots that the format of `i` uses
(R81, R83). -/
def agreeOnUsedSlots (i : Instr) (c d : Command) : Prop :=
  match i with
  | .ghashInit _ | .gctrInit _ => c.cw = d.cw ∧ c.input = d.input
  | .ghashUpdate _ _ _ | .gcmUpdateAad _ _ _ =>
    c.cw = d.cw ∧ c.input = d.input ∧ c.ofs = d.ofs ∧ c.len = d.len
  | .gctrUpdate _ _ _ | .gctrDofinal _ _ _ | .gcmEncrypt _ _ _ | .gcmEncryptFinal _ _ _
  | .gcmDecrypt _ _ _ | .gcmDecryptFinal _ _ _ =>
    c.cw = d.cw ∧ c.input = d.input ∧ c.len = d.len ∧ c.outCap = d.outCap
  | .gcmInit _ _ _ _ => c.cw = d.cw ∧ c.input = d.input ∧ c.iv = d.iv
  | _ => c.cw = d.cw

/-! ## Operations as a whole -/

/-- The padded associated data a payload command absorbs when it seals; nothing once sealed (R142). -/
def sealedAad (s : State) : Bytes := if s.phase = .init then pad16 s.aad else []

/-- `AAD` after a payload command (R142). -/
def aadAfterSeal (s : State) : Bytes := if s.phase = .init then [] else s.aad

/-- `AADLEN` after a payload command (R142). -/
def aadlenAfterSeal (s : State) : Nat := if s.phase = .init then s.aad.length else s.aadlen

/-- The accumulator as a block after the bytes `d` (R107). -/
def hashFrom (s : State) (d : Bytes) : Block :=
  blockOfWords (ghashFrom s.h0 s.h1 (s.s0, s.s1) d).1 (ghashFrom s.h0 s.h1 (s.s0, s.s1) d).2

/-- An operation has just been started (R140) or reset (R148). -/
structure JustStarted (s : State) : Prop where
  phase : s.phase = .init
  aad : s.aad = []
  aadlen : s.aadlen = 0
  proc : s.proc = 0
  ibuf : s.ibuf = []
  ctr : s.ctr = s.icb
  s0 : s.s0 = 0
  s1 : s.s1 = 0

/-- An operation with key `k`, IV `iv` and tag length `t` has just been started, and nothing has
disturbed it (R140, R156). -/
structure OperationReady (dec : Bool) (k iv : Bytes) (t : Nat) (s : State) : Prop where
  started : JustStarted s
  ck : s.ck = some k
  h0 : s.h0 = word0 (Config.encrypt k 0)
  h1 : s.h1 = word1 (Config.encrypt k 0)
  j0 : s.j0 = j0Fn (Config.encrypt k 0) iv
  icb : s.icb = inc32 (j0Fn (Config.encrypt k 0) iv)
  dec : s.dec = dec
  taglen : s.taglen = t

/-- The ciphertext (or plaintext) of the payload `d` under `k` and `iv` (R156). -/
def aeadPayload (k iv d : Bytes) : Bytes :=
  (gctrFn (Config.encrypt k) (inc32 (j0Fn (Config.encrypt k 0) iv)) d).1

/-- The tag of associated data `a` and ciphertext `c` (R156). -/
def aeadTag (k iv a c : Bytes) (t : Nat) : Bytes :=
  tagFn (Config.encrypt k) (j0Fn (Config.encrypt k 0) iv)
    (ghashFn (Config.encrypt k 0) (pad16 a ++ pad16 c ++ lenBlock a.length c.length)) t

/-- `GCM.UPDATE_AAD` of each piece (R156, R90). -/
def aadCommands (as : List Bytes) : List Instr := as.map fun a => .gcmUpdateAad a 0 a.length

/-- The commands of an encryption: associated data in pieces, payload in pieces, the last piece
(R156, property P1). -/
def encryptCommands (as ps : List Bytes) (pf : Bytes) (t : Nat) : List Instr :=
  aadCommands as ++ ps.map (fun p => .gcmEncrypt p p.length p.length) ++
    [.gcmEncryptFinal pf pf.length (pf.length + t)]

/-- The commands of a decryption of the wire data `ws.flatten ++ wf` (R156, property P1). -/
def decryptCommands (as ws : List Bytes) (wf : Bytes) (t : Nat) : List Instr :=
  aadCommands as ++ ws.map (fun w => .gcmDecrypt w w.length 0) ++
    [.gcmDecryptFinal wf wf.length ((ws.flatten ++ wf).length - t)]

end Sys2Proof.Safety
end

