-- ==== Sys2Proof/Certificates/Slice0/Obligations.lean ====
section
/-! DEFINITION. The statements about the model, for the provers. Each docstring names the rule of
spec/ (or the section of it) the statement formalises. `E(k, .)` is `Config.encrypt k`. -/

open Sys2Proof Sys2Proof.Machine Sys2Proof.Safety

/-! ## Encoding (`30_encoding.md`) -/

/-- R84, R88: decoding the encoding of a well-formed command gives it back, every operand at every
value its slot admits. -/
def Obligations.DecodeEncodeGivesTheCommandBack : Prop :=
  ∀ i : Instr, i.wellFormed = true → decode (encode i) = .ok i

/-- R82, R85, R86: what the decoder accepts has every operand in its slot's range. -/
def Obligations.DecodedCommandsAreWellFormed : Prop :=
  ∀ (c : Command) (i : Instr), decode c = .ok i → i.wellFormed = true

/-- R82, R84: no bit of a legal command word is dropped: the word of the decoded command is the
word that was decoded. -/
def Obligations.DecodedWordIsItsEncoding : Prop :=
  ∀ (c : Command) (i : Instr), decode c = .ok i → (encode i).cw = c.cw

/-- R88 (and property P10): a command word that the fields of R82 and the numbers of R84 make legal
selects exactly one row, any other selects none; and an illegal command is answered
`IllegalCommand` with `info = 0`, `n = 0`, no output data and no state change, whatever its operand
slots hold. -/
def Obligations.IllegalWordsAreExactlyTheUnmatchedOnes : Prop :=
  (∀ cw : BitVec 32,
    (opcodeMap.filter (fun r => r.selects cw)).length = if legalWord cw then 1 else 0) ∧
  (∀ (s : State) (c : Command) (rest : List PortEvent),
    s.port = .command c :: rest → legalWord c.cw = false →
    step s = errorAnswer .illegalCommand 0 { s with port := rest })

/-- R81, R83: the slots a command's format does not use are ignored, whatever they hold. -/
def Obligations.UnusedSlotsAreIgnored : Prop :=
  ∀ (c d : Command) (i : Instr),
    decode c = .ok i → agreeOnUsedSlots i c d → decode d = .ok i

/-- R82, R84: command words of each unit, written out from the encoding of their rows
(`95_test_vectors.md` sections 4.5 and 5). -/
def Obligations.SampleWordsDecodeToTheirCommands : Prop :=
  decode ⟨0x00000010, some [0xAB#8], none, 0, 0, 0⟩ = .ok (.ghashInit [0xAB#8]) ∧
  decode ⟨0x00000011, some [0xAB#8], none, 1, 0xFFFFFFF0, 7⟩ = .ok (.ghashUpdate [0xAB#8] 1 (-16)) ∧
  decode ⟨0x00000022, some [], none, 7, 0x80000000, 0x7FFFFFFF⟩ =
    .ok (.gctrDofinal [] (-2147483648) 2147483647) ∧
  decode ⟨0x000C0130, some [0xA5#8], some [], 0, 0, 0⟩ =
    .ok (.gcmInit true (some [0xA5#8]) (some []) 12) ∧
  decode ⟨0x00100030, none, some [], 0, 0, 0⟩ = .ok (.gcmInit false none (some []) 16) ∧
  decode ⟨0x0000003A, none, none, 0, 0, 0⟩ = .ok .gcmGetBufferedLength ∧
  decode ⟨0x00100032, some [], none, 0, 0, 0⟩ = .error .illegalCommand ∧
  decode ⟨0x80000012, none, none, 0, 0, 0⟩ = .error .illegalCommand

/-! ## The step -/

/-- `20_memory.md` section 4, `30_encoding.md` section 1: when the next event at the port is a
command that decodes to `i`, the step is the meaning of `i` in the state with that command taken and
nothing else changed. That the commands to come stand in a list is the model's choice (log entry 5).
-/
def Obligations.StepRunsTheDecodedCommand : Prop :=
  ∀ (s : State) (c : Command) (rest : List PortEvent) (i : Instr),
    s.port = .command c :: rest → decode c = .ok i → step s = exec i { s with port := rest }

/-- `60_exceptions.md` sections 5 and 7: with nothing at its ports the hardware is idle and its
state unchanged. That the step then answers the same state is the model's choice (log entry 5). -/
def Obligations.IdleStepChangesNothing : Prop :=
  ∀ s : State, s.port = [] → step s = .next s

/-- R44 (and `70_reset_and_hazards.md` section 1): hardware reset, between two commands and in any
state, gives no response and puts every register to which R44 gives a value at that value. Nothing
is said of the registers R44 leaves without one. -/
def Obligations.HardwareResetSetsTheStatedValues : Prop :=
  ∀ (s : State) (rest : List PortEvent), s.port = .hardwareReset :: rest →
    ∃ t, step s = .next t ∧ t.response = none ∧ StatedResetValues t

/-- `70_reset_and_hazards.md` section 2: in every state with the values `10_state.md` section 7 gives
for reset, whatever the registers it leaves open hold, every command but `GHASH.INIT`, `GCM.INIT` and
the two accessors ends in `IllegalState`, whatever its operands, and changes nothing; and the state
after reset has those values. -/
def Obligations.OnlyInitsAndAccessorsSucceedAfterReset : Prop :=
  (∀ (i : Instr) (s : State), succeedsAfterReset i = false → StatedResetValues s →
    exec i s = errorAnswer .illegalState 0 s) ∧
  StatedResetValues State.reset

/-! ## Pure functions (`00_scope.md` section 5) -/

/-- R10: `inc32` keeps the first 12 bytes and adds 1 modulo `2^32` in the last 4. -/
def Obligations.Inc32TouchesOnlyTheLastFourBytes : Prop :=
  ∀ b : Block, (bytesOfBlock (inc32 b)).take 12 = (bytesOfBlock b).take 12 ∧
    beNat ((bytesOfBlock (inc32 b)).drop 12) = (beNat ((bytesOfBlock b).drop 12) + 1) % 2 ^ 32

/-- `00_scope.md` section 5 and the inference of `70_reset_and_hazards.md` section 3 on the
counter's wrap ("[derived: from ...]"): `inc32` applied `n` times gives the block back exactly when
`2^32` divides `n`; so no counter value repeats within fewer than `2^32` blocks, and none of those
after `J0` is `J0`. -/
def Obligations.Inc32HasPeriodTwoToThe32 : Prop :=
  ∀ (b : Block) (n : Nat), inc32^[n] b = b ↔ 2 ^ 32 ∣ n

/-- R11: `pad16` appends fewer than 16 zero bytes and reaches a multiple of 16. -/
def Obligations.Pad16ReachesTheNextMultipleOf16 : Prop :=
  ∀ b : Bytes, 16 ∣ (pad16 b).length ∧
    ∃ n, n < 16 ∧ pad16 b = b ++ List.replicate n 0#8

/-- The laws that `00_scope.md` section 5 infers for the product ("[derived: from the pseudocode, it
is multiplication in a commutative ring]"): zero and one of GF(2^128), and linearity over xor in each
argument; and what its pseudocode does for multiplication by `x`, which fixes the reduction (the
constant goes into the first word, `90_conflicts.md` C2). -/
def Obligations.BlockMultIsBilinearWithZeroAndOne : Prop :=
  (∀ h0 h1 : Word, blockMult 0 0 h0 h1 = (0, 0)) ∧
  (∀ x0 x1 : Word, blockMult x0 x1 0 0 = (0, 0)) ∧
  (∀ h0 h1 : Word, blockMult 0x8000000000000000 0 h0 h1 = (h0, h1)) ∧
  (∀ h0 h1 : Word, blockMult 0x4000000000000000 0 h0 h1 =
    ((h0 >>> 1) ^^^ (if h1.getLsbD 0 then 0xE100000000000000 else 0),
      (h1 >>> 1) ||| (h0 <<< 63))) ∧
  (∀ x0 x1 y0 y1 h0 h1 : Word, blockMult (x0 ^^^ y0) (x1 ^^^ y1) h0 h1 =
    ((blockMult x0 x1 h0 h1).1 ^^^ (blockMult y0 y1 h0 h1).1,
      (blockMult x0 x1 h0 h1).2 ^^^ (blockMult y0 y1 h0 h1).2)) ∧
  (∀ x0 x1 g0 g1 h0 h1 : Word, blockMult x0 x1 (g0 ^^^ h0) (g1 ^^^ h1) =
    ((blockMult x0 x1 g0 g1).1 ^^^ (blockMult x0 x1 h0 h1).1,
      (blockMult x0 x1 g0 g1).2 ^^^ (blockMult x0 x1 h0 h1).2))

/-- The first law that `00_scope.md` section 5 infers for the product ("[derived: from the
pseudocode, it is multiplication in a commutative ring]"): `block_mult(X, H) = block_mult(H, X)`. -/
def Obligations.BlockMultIsCommutative : Prop :=
  ∀ x0 x1 h0 h1 : Word, blockMult x0 x1 h0 h1 = blockMult h0 h1 x0 x1

/-- `00_scope.md` section 5 on `gctr_fn` (the last clause is its inference, "[derived: from this
rule]"): the output is as long as the data, the counter advances once per chunk, the empty string
gives nothing, and applying the function to its own output gives the data back. -/
def Obligations.GctrFnIsALengthPreservingInvolution : Prop :=
  ∀ (e : Block → Block) (cb : Block) (d : Bytes),
    (gctrFn e cb d).1.length = d.length ∧
    (gctrFn e cb d).2 = inc32^[(d.length + 15) / 16] cb ∧
    gctrFn e cb [] = ([], cb) ∧
    (gctrFn e cb (gctrFn e cb d).1).1 = d

/-- `00_scope.md` section 5 on `len_block`: up to `MAXLEN` the length block is the two 64-bit
big-endian bit lengths. -/
def Obligations.LenBlockIsTheTwo64BitLengths : Prop :=
  ∀ a c : Nat, a ≤ maxLen → c ≤ maxLen → lenBlock a c = beBytes 8 (8 * a) ++ beBytes 8 (8 * c)

/-- R17: a 12-byte IV is padded with the big-endian 1; an IV of any other length is hashed, padded and
followed by its bit length; for the empty IV that is the zero block. -/
def Obligations.J0OfTwelveBytesAndOfNone : Prop :=
  (∀ (h : Block) (iv : Bytes), iv.length = 12 →
    bytesOfBlock (j0Fn h iv) = iv ++ [0x00, 0x00, 0x00, 0x01]) ∧
  (∀ (h : Block) (iv : Bytes), iv.length ≠ 12 →
    j0Fn h iv =
      ghashFn h (pad16 iv ++ (List.replicate 12 0x00 ++ beBytes 4 (8 * iv.length)))) ∧
  (∀ h : Block, j0Fn h [] = 0)

/-- R19: on byte strings of one length the comparison is equality of all their bytes. -/
def Obligations.TagEqualIsEquality : Prop :=
  ∀ a b : Bytes, a.length = b.length → (tagEqual a b = true ↔ a = b)

/-! ## GHASH commands (`40_ghash.md`) -/

/-- R100: `GHASH.INIT` in every state, for every subkey. -/
def Obligations.GhashInitLoadsTheSubkey : Prop :=
  ∀ (k : Bytes) (s : State),
    exec (.ghashInit k) s =
      if k.length = 16 then
        okAnswer 0 []
          { s with
            h0 := be64 (k.take 8), h1 := be64 (k.drop 8), s0 := 0, s1 := 0
            ghSv := false, ghInit := true }
      else errorAnswer .invalidSubkey 0 s

/-- R101: `GHASH.UPDATE` absorbs `data[ofs + 16i .. ofs + 16i + 16)` for `i = 0 .. len/16 - 1`, in
that order; its errors come in the order `IllegalState`, `UnsupportedLength`, and only then the
refusal. -/
def Obligations.GhashUpdateAbsorbsTheBlocksInOrder : Prop :=
  ∀ (data : Bytes) (ofs len : Int) (s : State),
    exec (.ghashUpdate data ofs len) s =
      if s.ghInit = false then errorAnswer .illegalState 0 s
      else if len < 0 ∨ len % 16 ≠ 0 then errorAnswer .unsupportedLength 0 s
      else if ofs < 0 ∨ ofs + len > data.length then .refused .operandBounds
      else
        let z := (List.range (len.toNat / 16)).foldl
          (fun z i => ghashStep s.h0 s.h1 z (blockOfBytes (memRead data (ofs + 16 * i) 16)))
          (s.s0, s.s1)
        okAnswer 0 [] { s with s0 := z.1, s1 := z.2 }

/-- R103: `GHASH.DIGEST` returns the accumulator, first half first, and zeroes it; a digest of the
state it leaves is 16 zero bytes. -/
def Obligations.GhashDigestIsDestructive : Prop :=
  ∀ s : State,
    exec .ghashDigest s =
      (if s.ghInit = false then errorAnswer .illegalState 0 s
      else okAnswer 16 (bytesOfBlock (blockOfWords s.s0 s.s1)) { s with s0 := 0, s1 := 0 }) ∧
    ∀ t, s.ghInit = true → exec .ghashDigest s = .next t →
      exec .ghashDigest t = okAnswer 16 (List.replicate 16 0) t

/-- R104, R105, R106: `GHASH.RESET`, `GHASH.SAVE` and `GHASH.RESTORE` in every state. -/
def Obligations.GhashResetSaveRestore : Prop :=
  ∀ s : State,
    exec .ghashReset s =
      (if s.ghInit = false then errorAnswer .illegalState 0 s
      else okAnswer 0 [] { s with s0 := 0, s1 := 0 }) ∧
    exec .ghashSave s =
      (if s.ghInit = false then errorAnswer .illegalState 0 s
      else okAnswer 0 [] { s with ss0 := s.s0, ss1 := s.s1, ghSv := true }) ∧
    exec .ghashRestore s =
      (if s.ghInit = false ∨ s.ghSv = false then errorAnswer .illegalState 0 s
      else okAnswer 0 [] { s with s0 := s.ss0, s1 := s.ss1 })

/-- What `40_ghash.md` infers for the whole unit ("[derived: from rule R100 to rule R104 ...]"):
`GHASH.UPDATE` commands that absorb `d_1 .. d_n` and then `GHASH.DIGEST` return the hash
recurrence of `d_1 ++ .. ++ d_n` from the accumulator they started with, and leave the accumulator
zero and every other register as it was; after `GHASH.INIT H`, and wherever the accumulator is zero,
that is `ghash_fn(H, d_1 ++ .. ++ d_n)`. -/
def Obligations.GhashHashesTheConcatenation : Prop :=
  ∀ (us : List (Bytes × Int × Int)) (s : State),
    (∀ u ∈ us, 0 ≤ u.2.1 ∧ 0 ≤ u.2.2 ∧ u.2.2 % 16 = 0 ∧ u.2.1 + u.2.2 ≤ u.1.length) →
    (s.ghInit = true →
      ∃ t rs,
        runInstrs (us.map (fun u => .ghashUpdate u.1 u.2.1 u.2.2) ++ [.ghashDigest]) s =
          some (t, rs) ∧
        sameRegisters t { s with s0 := 0, s1 := 0 } ∧
        outputs rs =
          bytesOfBlock (hashFrom s (us.map fun u => memRead u.1 u.2.1 u.2.2).flatten)) ∧
    (∀ k : Bytes, k.length = 16 →
      ∃ t rs,
        runInstrs (.ghashInit k :: us.map (fun u => .ghashUpdate u.1 u.2.1 u.2.2) ++
          [.ghashDigest]) s = some (t, rs) ∧
        outputs rs =
          bytesOfBlock (ghashFn (blockOfBytes k)
            (us.map fun u => memRead u.1 u.2.1 u.2.2).flatten))

/-- Property P5 of `95_test_vectors.md` section 6 for the GHASH unit: after `GHASH.SAVE`, any
commands that do not write the saved accumulator, then `GHASH.RESTORE`: the accumulator is the one
that was saved. -/
def Obligations.GhashRestoreBringsTheAccumulatorBack : Prop :=
  ∀ (is : List Instr) (s t : State) (rs : List Response),
    s.ghInit = true → (∀ i ∈ is, writesSavedAcc i = false) →
    runInstrs (.ghashSave :: is ++ [.ghashRestore]) s = some (t, rs) →
    t.s0 = s.s0 ∧ t.s1 = s.s1 ∧ t.response = some ⟨.ok, 0, 0, []⟩

/-! ## GCTR commands (`41_gctr.md`) -/

/-- R120: `GCTR.INIT` in every state, for every block. -/
def Obligations.GctrInitSeedsTheCounter : Prop :=
  ∀ (icb : Bytes) (s : State),
    exec (.gctrInit icb) s =
      if s.ck = none then errorAnswer .illegalState 0 s
      else if icb.length ≠ 16 then errorAnswer .invalidParameter 0 s
      else okAnswer 0 []
        { s with
          icb := blockOfBytes icb, ctr := blockOfBytes icb, gcSv := false, gcInit := true }

/-- R121: `GCTR.UPDATE` in every state with a keyed collaborator; after success `CTR` is `inc32`
applied `len / 16` times to its old value. -/
def Obligations.GctrUpdateXorsTheKeystream : Prop :=
  ∀ (input : Bytes) (len outCap : Int) (s : State) (k : Key), s.ck = some k →
    exec (.gctrUpdate input len outCap) s =
      if s.gcInit = false then errorAnswer .illegalState 0 s
      else if len < 0 ∨ len % 16 ≠ 0 ∨ len > input.length ∨ len > outCap then
        errorAnswer .internalSizeError 0 s
      else okAnswer len (gctrFn (Config.encrypt k) s.ctr (memRead input 0 len)).1
        { s with ctr := inc32^[len.toNat / 16] s.ctr }

/-- R122: `GCTR.DOFINAL` in every state with a keyed collaborator: the counter is back at `ICB` on
every exit but the one where the unit is not initialised, and the snapshot is kept. -/
def Obligations.GctrDofinalResetsTheCounterOnEveryExit : Prop :=
  ∀ (input : Bytes) (len outCap : Int) (s : State) (k : Key), s.ck = some k →
    exec (.gctrDofinal input len outCap) s =
      if s.gcInit = false then errorAnswer .illegalState 0 s
      else if len < 0 then errorAnswer .illegalBlockSize 0 { s with ctr := s.icb }
      else if len > input.length ∨ len > outCap then
        errorAnswer .internalSizeError 0 { s with ctr := s.icb }
      else okAnswer len (gctrFn (Config.encrypt k) s.ctr (memRead input 0 len)).1
        { s with ctr := s.icb }

/-- R123, R124, R125: `GCTR.RESET`, `GCTR.SAVE` and `GCTR.RESTORE` in every state. -/
def Obligations.GctrResetSaveRestore : Prop :=
  ∀ s : State,
    exec .gctrReset s =
      (if s.gcInit = false then errorAnswer .illegalState 0 s
      else okAnswer 0 [] { s with ctr := s.icb, gcSv := false }) ∧
    exec .gctrSave s =
      (if s.gcInit = false then errorAnswer .illegalState 0 s
      else okAnswer 0 [] { s with ctrs := s.ctr, gcSv := true }) ∧
    exec .gctrRestore s =
      (if s.gcInit = false ∨ s.gcSv = false then errorAnswer .illegalState 0 s
      else okAnswer 0 [] { s with ctr := s.ctrs })

/-- What `41_gctr.md` infers for the whole unit ("[derived: from rule R120 to rule R122 ...]"):
after `GCTR.INIT icb`, `GCTR.UPDATE` of `d_1 .. d_n` and `GCTR.DOFINAL` of `d_f` return together the
first component of `gctr_fn(CK, icb, d_1 ++ .. ++ d_n ++ d_f)` and leave `CTR = ICB = icb`; the same
sequence on the outputs returns the inputs. -/
def Obligations.GctrEncryptsTheConcatenation : Prop :=
  ∀ (icb : Bytes) (ds : List Bytes) (df : Bytes) (s : State) (k : Key),
    s.ck = some k → icb.length = 16 → (∀ d ∈ ds, 16 ∣ d.length) →
    ∃ (t : State) (os : List Bytes) (last : Bytes),
      runInstrs (.gctrInit icb :: ds.map (fun d => .gctrUpdate d d.length d.length) ++
        [.gctrDofinal df df.length df.length]) s =
        some (t, ⟨.ok, 0, 0, []⟩ :: os.map (fun o => ⟨.ok, 0, o.length, o⟩) ++
          [⟨.ok, 0, last.length, last⟩]) ∧
      os.length = ds.length ∧
      os.flatten ++ last =
        (gctrFn (Config.encrypt k) (blockOfBytes icb) (ds.flatten ++ df)).1 ∧
      t.ctr = blockOfBytes icb ∧ t.icb = blockOfBytes icb ∧
      ∃ u rs,
        runInstrs (.gctrInit icb :: os.map (fun d => .gctrUpdate d d.length d.length) ++
          [.gctrDofinal last last.length last.length]) s = some (u, rs) ∧
        outputs rs = ds.flatten ++ df

/-- Property P5 of `95_test_vectors.md` section 6 for the GCTR unit: after `GCTR.SAVE`, any commands
that do not write the saved counter, then `GCTR.RESTORE`: the counter is the one that was saved. -/
def Obligations.GctrRestoreBringsTheCounterBack : Prop :=
  ∀ (is : List Instr) (s t : State) (rs : List Response),
    s.gcInit = true → (∀ i ∈ is, writesSavedCtr i = false) →
    runInstrs (.gctrSave :: is ++ [.gctrRestore]) s = some (t, rs) →
    t.ctr = s.ctr ∧ t.response = some ⟨.ok, 0, 0, []⟩

/-! ## Orchestrator commands (`42_gcm.md`) -/

/-- R140: `GCM.INIT` in every state, for every operand: the order of its checks, and every register
it writes. -/
def Obligations.GcmInitStartsTheOperation : Prop :=
  ∀ (dec : Bool) (key iv : Option Bytes) (taglen : Nat) (s : State),
    exec (.gcmInit dec key iv taglen) s =
      match key, iv with
      | some k, some v =>
        if Config.keyOk k = false then errorAnswer .invalidKey 0 s
        else if taglen < 1 ∨ taglen > 16 then .refused .tagLength
        else if v.length > maxLen then .refused .lengthLimit
        else okAnswer 0 []
          { s with
            ck := some k
            h0 := word0 (Config.encrypt k 0), h1 := word1 (Config.encrypt k 0), s0 := 0, s1 := 0
            ghSv := false, ghInit := true
            j0 := j0Fn (Config.encrypt k 0) v
            icb := inc32 (j0Fn (Config.encrypt k 0) v), ctr := inc32 (j0Fn (Config.encrypt k 0) v)
            gcSv := false, gcInit := true
            dec := dec, taglen := taglen
            aad := [], aadlen := 0, proc := 0, ibuf := []
            gmSv := false, phase := .init }
      | _, _ => errorAnswer .invalidKey 0 s

/-- `42_gcm.md` sections 2 and 3: `GCM.INIT` with a key, an IV and a tag length in range completes,
whether or not the collaborator accepts the key; when it does, the operation is ready. -/
def Obligations.GcmInitLeavesTheOperationReady : Prop :=
  ∀ (dec : Bool) (k iv : Bytes) (t : Nat) (s : State),
    1 ≤ t → t ≤ 16 → iv.length ≤ maxLen →
    ∃ u, exec (.gcmInit dec (some k) (some iv) t) s = .next u ∧
      if Config.keyOk k then OperationReady dec k iv t u
      else u = { s with response := some ⟨.invalidKey, 0, 0, []⟩ }

/-- `00_scope.md` section 3, `42_gcm.md` section 2: the commands whose completion depends on an open
parameter (`KeyOK`, `AAD_CAP`, `IBUF_CAP`, constants without a value in the model: log entries 2 and
3), for every choice `p` of the parameters: where `p` accepts the key, or the bytes fit, the command
completes with its own effect; and the meaning of the instruction is the one at the parameters of
this machine. -/
def Obligations.OpenParameterCommandsComplete : Prop :=
  (∀ (p : Params) (dec : Bool) (k iv : Bytes) (t : Nat) (s : State),
    p.keyOk k = true → 1 ≤ t → t ≤ 16 → iv.length ≤ maxLen →
    gcmInitWith p dec (some k) (some iv) t s = okAnswer 0 []
      { s with
        ck := some k
        h0 := word0 (p.encrypt k 0), h1 := word1 (p.encrypt k 0), s0 := 0, s1 := 0
        ghSv := false, ghInit := true
        j0 := j0Fn (p.encrypt k 0) iv
        icb := inc32 (j0Fn (p.encrypt k 0) iv), ctr := inc32 (j0Fn (p.encrypt k 0) iv)
        gcSv := false, gcInit := true
        dec := dec, taglen := t
        aad := [], aadlen := 0, proc := 0, ibuf := []
        gmSv := false, phase := .init }) ∧
  (∀ (p : Params) (data : Bytes) (ofs len : Nat) (s : State),
    s.phase = .init → ofs + len ≤ data.length → s.aad.length + len ≤ maxLen →
    withinCap p.aadCap (s.aad.length + len) = true →
    gcmUpdateAadWith p data ofs len s =
      okAnswer 0 [] { s with aad := s.aad ++ (data.drop ofs).take len }) ∧
  (∀ (p : Params) (input : Bytes) (len : Nat) (outCap : Int) (s : State),
    (s.phase = .init ∨ s.phase = .sealed) → s.dec = true → len ≤ input.length →
    s.ibuf.length + len ≤ maxLen → withinCap p.ibufCap (s.ibuf.length + len) = true →
    let z := ghashFrom s.h0 s.h1 (s.s0, s.s1) (sealedAad s)
    gcmDecryptWith p input len outCap s =
      okAnswer 0 []
        { s with
          s0 := z.1, s1 := z.2
          phase := .sealed, aad := aadAfterSeal s, aadlen := aadlenAfterSeal s
          ibuf := s.ibuf ++ input.take len }) ∧
  (∀ (p : Params) (input : Bytes) (len : Nat) (outCap : Int) (s : State) (k : Key),
    s.ck = some k → (s.phase = .init ∨ s.phase = .sealed) → s.dec = true → len ≤ input.length →
    s.ibuf.length + len ≤ maxLen → withinCap p.ibufCap (s.ibuf.length + len) = true →
    s.taglen ≤ s.ibuf.length + len → (s.ibuf.length : Int) + len - s.taglen ≤ outCap →
    let w := s.ibuf ++ input.take len
    let c := w.take (w.length - s.taglen)
    let tag := tagFn (p.encrypt k) s.j0
      (hashFrom s (sealedAad s ++ pad16 c ++ lenBlock (aadlenAfterSeal s) (s.proc + c.length)))
      s.taglen
    let done : State :=
      { s with
        s0 := 0, s1 := 0, ctr := s.icb
        phase := .final, aad := aadAfterSeal s, aadlen := aadlenAfterSeal s
        ibuf := w, proc := s.proc + c.length }
    gcmDecryptFinalWith p input len outCap s =
      if tagEqual tag (w.drop (w.length - s.taglen))
      then okAnswer c.length (gctrFn (p.encrypt k) s.ctr c).1 done
      else errorAnswer .aeadBadTag 2 done) ∧
  (∀ dec key iv t, exec (.gcmInit dec key iv t) = gcmInitWith Config.params dec key iv t) ∧
  (∀ data ofs len, exec (.gcmUpdateAad data ofs len) = gcmUpdateAadWith Config.params data ofs len) ∧
  (∀ input len outCap,
    exec (.gcmDecrypt input len outCap) = gcmDecryptWith Config.params input len outCap) ∧
  (∀ input len outCap,
    exec (.gcmDecryptFinal input len outCap) = gcmDecryptFinalWith Config.params input len outCap)

/-- R141: `GCM.UPDATE_AAD` in every state, for every operand. -/
def Obligations.GcmUpdateAadAppends : Prop :=
  ∀ (data : Bytes) (ofs len : Int) (s : State),
    exec (.gcmUpdateAad data ofs len) s =
      if s.phase ≠ .init then errorAnswer .illegalState 0 s
      else if ofs < 0 ∨ len < 0 ∨ ofs + len > data.length then .refused .operandBounds
      else if s.aad.length + len > maxLen then .refused .lengthLimit
      else if withinCap Config.aadCap (s.aad.length + len.toNat) = false then
        .refused .bufferCapacity
      else okAnswer 0 [] { s with aad := s.aad ++ memRead data ofs len }

/-- R144: `GCM.ENCRYPT` in every state with a keyed collaborator: the associated data is sealed, the
keystream applied, the ciphertext (not the plaintext) absorbed and counted. -/
def Obligations.GcmEncryptAbsorbsItsCiphertext : Prop :=
  ∀ (input : Bytes) (len outCap : Int) (s : State) (k : Key), s.ck = some k →
    exec (.gcmEncrypt input len outCap) s =
      if payloadIllegal false s then errorAnswer .illegalState 0 s
      else if len % 16 ≠ 0 then errorAnswer .internalError 0 s
      else if len < 0 ∨ len > input.length ∨ len > outCap then .refused .operandBounds
      else if s.proc + len > maxLen then .refused .lengthLimit
      else
        let c := (gctrFn (Config.encrypt k) s.ctr (memRead input 0 len)).1
        let z := ghashFrom s.h0 s.h1 (s.s0, s.s1) (sealedAad s ++ c)
        okAnswer len c
          { s with
            s0 := z.1, s1 := z.2, ctr := inc32^[len.toNat / 16] s.ctr
            phase := .sealed, aad := aadAfterSeal s, aadlen := aadlenAfterSeal s
            proc := s.proc + len.toNat }

/-- R145: `GCM.ENCRYPT_FINAL` in every state with a keyed collaborator: the last ciphertext and the
first `TAGLEN` bytes of the tag block over everything absorbed; the accumulator is zero and the
counter back at `ICB` afterwards. -/
def Obligations.GcmEncryptFinalAppendsTheTag : Prop :=
  ∀ (input : Bytes) (len outCap : Int) (s : State) (k : Key), s.ck = some k →
    exec (.gcmEncryptFinal input len outCap) s =
      if payloadIllegal false s then errorAnswer .illegalState 0 s
      else if len < 0 ∨ len > input.length then .refused .operandBounds
      else if s.proc + len > maxLen then .refused .lengthLimit
      else if outCap < len + s.taglen then errorAnswer .shortBuffer 0 s
      else
        let c := (gctrFn (Config.encrypt k) s.ctr (memRead input 0 len)).1
        let h := hashFrom s
          (sealedAad s ++ pad16 c ++ lenBlock (aadlenAfterSeal s) (s.proc + len.toNat))
        okAnswer (len + s.taglen) (c ++ tagFn (Config.encrypt k) s.j0 h s.taglen)
          { s with
            s0 := 0, s1 := 0, ctr := s.icb
            phase := .final, aad := aadAfterSeal s, aadlen := aadlenAfterSeal s
            proc := s.proc + len.toNat }

/-- R146: `GCM.DECRYPT` in every state, for every operand: it buffers and produces nothing, and
ignores `out_cap`. -/
def Obligations.GcmDecryptOnlyBuffers : Prop :=
  ∀ (input : Bytes) (len outCap : Int) (s : State),
    exec (.gcmDecrypt input len outCap) s =
      if payloadIllegal true s then errorAnswer .illegalState 0 s
      else if len < 0 ∨ len > input.length then .refused .operandBounds
      else if s.ibuf.length + len > maxLen then .refused .lengthLimit
      else if withinCap Config.ibufCap (s.ibuf.length + len.toNat) = false then
        .refused .bufferCapacity
      else
        let z := ghashFrom s.h0 s.h1 (s.s0, s.s1) (sealedAad s)
        okAnswer 0 []
          { s with
            s0 := z.1, s1 := z.2
            phase := .sealed, aad := aadAfterSeal s, aadlen := aadlenAfterSeal s
            ibuf := s.ibuf ++ memRead input 0 len }

/-- R147: `GCM.DECRYPT_FINAL` in every state with a keyed collaborator: the order of its checks, the
split of the buffer, the tag gate, and the one state that success and a tag mismatch leave. -/
def Obligations.GcmDecryptFinalVerifiesBeforeReleasing : Prop :=
  ∀ (input : Bytes) (len outCap : Int) (s : State) (k : Key), s.ck = some k →
    exec (.gcmDecryptFinal input len outCap) s =
      let total : Int := s.ibuf.length + len
      if payloadIllegal true s then errorAnswer .illegalState 0 s
      else if len < 0 ∨ len > input.length then .refused .operandBounds
      else if total > maxLen then .refused .lengthLimit
      else if withinCap Config.ibufCap total.toNat = false then .refused .bufferCapacity
      else if total < s.taglen then errorAnswer .aeadBadTag 1 s
      else if outCap < total - s.taglen then errorAnswer .shortBuffer 0 s
      else
        let w := s.ibuf ++ memRead input 0 len
        let c := w.take (w.length - s.taglen)
        let received := w.drop (w.length - s.taglen)
        let h := hashFrom s
          (sealedAad s ++ pad16 c ++ lenBlock (aadlenAfterSeal s) (s.proc + c.length))
        let done : State :=
          { s with
            s0 := 0, s1 := 0, ctr := s.icb
            phase := .final, aad := aadAfterSeal s, aadlen := aadlenAfterSeal s
            ibuf := w, proc := s.proc + c.length }
        if tagEqual (tagFn (Config.encrypt k) s.j0 h s.taglen) received then
          okAnswer c.length (gctrFn (Config.encrypt k) s.ctr c).1 done
        else errorAnswer .aeadBadTag 2 done

/-- R148, R149, R150: `GCM.RESET`, `GCM.SAVE` and `GCM.RESTORE` in every state. -/
def Obligations.GcmResetSaveRestore : Prop :=
  ∀ s : State,
    exec .gcmReset s =
      (if s.phase = .uninit then errorAnswer .illegalState 0 s
      else okAnswer 0 []
        { s with
          aad := [], ctr := s.icb, gcSv := false, s0 := 0, s1 := 0, proc := 0, aadlen := 0
          ibuf := if s.dec then [] else s.ibuf
          phase := .init }) ∧
    exec .gcmSave s =
      (if s.phase = .uninit then errorAnswer .illegalState 0 s
      else okAnswer 0 []
        { s with
          sPhase := s.phase, sAad := s.aad, sAadlen := s.aadlen, sProc := s.proc
          sIbuf := s.ibuf, ctrs := s.ctr, gcSv := true, ss0 := s.s0, ss1 := s.s1
          ghSv := true, gmSv := true }) ∧
    exec .gcmRestore s =
      (if s.phase = .uninit ∨ (s.gmSv && s.gcSv && s.ghSv) = false then
        errorAnswer .illegalState 0 s
      else okAnswer 0 []
        { s with
          phase := s.sPhase, aad := s.sAad, aadlen := s.sAadlen, proc := s.sProc
          ibuf := s.sIbuf, ctr := s.ctrs, s0 := s.ss0, s1 := s.ss1 })

/-- R151, R152: the two accessors complete in every state, return their value in `n` and write
nothing. -/
def Obligations.AccessorsReturnTheirRegister : Prop :=
  ∀ s : State,
    exec .gcmGetTagLength s = okAnswer s.taglen [] s ∧
    exec .gcmGetBufferedLength s = okAnswer (if s.dec then (s.ibuf.length : Int) else 0) [] s

/-! ## Errors and refusals (`60_exceptions.md`) -/

/-- R182: a command ends in `IllegalState` exactly in the cases of the table, and then changes no
state and returns no data. -/
def Obligations.IllegalStateIsExactlyItsTable : Prop :=
  ∀ (i : Instr) (s : State),
    (illegalStateCause i s → exec i s = errorAnswer .illegalState 0 s) ∧
    (∀ t r, exec i s = .next t → t.response = some r → r.status = .illegalState →
      illegalStateCause i s)

/-- R186: a command is refused exactly in the cases of the table, unless it raises a named
error first; nothing else is refused. -/
def Obligations.RefusalsAreExactlyTheirTable : Prop :=
  ∀ (i : Instr) (s : State),
    (∃ r, exec i s = .refused r) ↔ (¬ illegalStateCause i s ∧ refusedCase i s)

/-- R188: an error response carries its status and `info`, `n = 0` and no output data; `info` is
not 0 only with `AEADBadTag`, where it is 1 or 2. -/
def Obligations.ErrorResponsesCarryNothingElse : Prop :=
  ∀ (i : Instr) (s t : State) (r : Response),
    exec i s = .next t → t.response = some r →
    (r.status ≠ .ok → r.n = 0 ∧ r.out = []) ∧
    (r.status = .aeadBadTag → r.info = 1 ∨ r.info = 2) ∧
    (r.status ≠ .aeadBadTag → r.info = 0)

/-- R184 (and property P8): an error leaves the state unchanged, but for the two of R184, which
change exactly what R184 says: `GCTR.DOFINAL` ending in `IllegalBlockSize` or `InternalSizeError`
resets the counter, and the tag mismatch of `GCM.DECRYPT_FINAL` leaves what success leaves. -/
def Obligations.ErrorsChangeNothingButTwo : Prop :=
  ∀ (i : Instr) (s t : State) (r : Response),
    exec i s = .next t → t.response = some r → r.status ≠ .ok →
    t =
      match i with
      | .gctrDofinal _ _ _ =>
        if r.status = .illegalState then { s with response := some r }
        else { s with ctr := s.icb, response := some r }
      | .gcmDecryptFinal input len _ =>
        if r.status = .aeadBadTag ∧ r.info = 2 then
          { s with
            s0 := 0, s1 := 0, ctr := s.icb
            phase := .final, aad := aadAfterSeal s, aadlen := aadlenAfterSeal s
            ibuf := s.ibuf ++ memRead input 0 len
            proc := s.proc + ((s.ibuf ++ memRead input 0 len).length - s.taglen)
            response := some r }
        else { s with response := some r }
      | _ => { s with response := some r }

/-- R158 (and properties P3, P9): `GCM.DECRYPT` produces no output, and `GCM.DECRYPT_FINAL` produces
output only with status `OK`, which it gives only when the received tag is the expected one. -/
def Obligations.NoPlaintextBeforeVerification : Prop :=
  (∀ (input : Bytes) (len outCap : Int) (s t : State) (r : Response),
    exec (.gcmDecrypt input len outCap) s = .next t → t.response = some r →
    r.n = 0 ∧ r.out = []) ∧
  (∀ (input : Bytes) (len outCap : Int) (s t : State) (r : Response), s.taglen ≤ 16 →
    exec (.gcmDecryptFinal input len outCap) s = .next t → t.response = some r →
    (r.out ≠ [] → r.status = .ok) ∧
    (r.status = .ok →
      ∃ k, s.ck = some k ∧
        tagFn (Config.encrypt k) s.j0
          (hashFrom s (sealedAad s ++ pad16 (trueCiphertext t) ++
            lenBlock t.aadlen (s.proc + (trueCiphertext t).length))) s.taglen =
        receivedTag t))

/-- `20_memory.md` section 2, `30_encoding.md` section 4: output data comes only with `OK` and never
exceeds the output capacity (a negative one is a capacity of no bytes), and `n` is the number of
bytes produced. -/
def Obligations.OutputFitsItsCapacity : Prop :=
  ∀ (input : Bytes) (len outCap : Int) (i : Instr) (s t : State) (r : Response),
    s.taglen ≤ 16 →
    i ∈ [.gctrUpdate input len outCap, .gctrDofinal input len outCap, .gcmEncrypt input len outCap,
      .gcmEncryptFinal input len outCap, .gcmDecrypt input len outCap,
      .gcmDecryptFinal input len outCap] →
    exec i s = .next t → t.response = some r →
    r.n = r.out.length ∧ (r.out.length : Int) ≤ max outCap 0 ∧ (r.out ≠ [] → r.status = .ok)

/-! ## Whole-machine rules -/

/-- R22: `PHASE` after a command that takes effect (status `OK`, or the tag mismatch of
`GCM.DECRYPT_FINAL`) is what the table of R22 says, and every other answer leaves it; it is
`UNINIT` after reset. -/
def Obligations.PhaseMovesOnlyByItsTable : Prop :=
  (∀ (i : Instr) (s t : State) (r : Response),
    exec i s = .next t → t.response = some r →
    if r.status = .ok ∨ (r.status = .aeadBadTag ∧ r.info = 2)
    then phaseMove i s.phase s.sPhase = some t.phase
    else t.phase = s.phase) ∧
  State.reset.phase = .uninit

/-- `10_state.md` sections 2 to 5: each register that an `INIT` fixes changes only by the
commands its rule names, and the two presence bits are never cleared. -/
def Obligations.OnlyInitsWriteTheKeyRegisters : Prop :=
  ∀ (i : Instr) (s t : State), exec i s = .next t →
    (isGcmInit i = false →
      t.ck = s.ck ∧ t.dec = s.dec ∧ t.taglen = s.taglen ∧ t.j0 = s.j0) ∧
    (isGcmInit i = false → isGhashInit i = false → t.h0 = s.h0 ∧ t.h1 = s.h1) ∧
    (isGcmInit i = false → isGctrInit i = false → t.icb = s.icb) ∧
    (s.ghInit = true → t.ghInit = true) ∧ (s.gcInit = true → t.gcInit = true)

/-- `70_reset_and_hazards.md` section 3 (an inference of the spec, "[derived: from `40_ghash.md`, ...]")
and `10_state.md` section 6: a GHASH command changes only the GHASH unit's registers, a GCTR command
only the GCTR unit's. And `20_memory.md` section 4 (R69, "none of any later one"): no command reads
or changes the events still to come, whatever they are; that they stand in State is the model's
choice (log entry 5). -/
def Obligations.LeafCommandsKeepToTheirUnit : Prop :=
  (∀ (i : Instr) (s t : State), exec i s = .next t →
    (isGhash i = true →
      t = { s with
        ghInit := t.ghInit, h0 := t.h0, h1 := t.h1, s0 := t.s0, s1 := t.s1
        ghSv := t.ghSv, ss0 := t.ss0, ss1 := t.ss1, response := t.response }) ∧
    (isGctr i = true →
      t = { s with
        gcInit := t.gcInit, icb := t.icb, ctr := t.ctr, gcSv := t.gcSv, ctrs := t.ctrs
        response := t.response }) ∧
    t.port = s.port) ∧
  (∀ (i : Instr) (s : State) (events : List PortEvent),
    exec i { s with port := events } =
      match exec i s with
      | .next t => .next { t with port := events }
      | .fault f => .fault f
      | .refused r => .refused r)

/-! ## Invariants (`10_state.md` rule R43) -/

/-- `10_state.md` sections 6 and 7: the state after reset meets the invariant, that is, the clauses
(a) to (h) the spec infers and what `Safety.SnapshotClauses` adds to make them inductive. -/
def Obligations.ResetMeetsTheInvariant : Prop := Inv State.reset

/-- `10_state.md` section 6 (the spec's inference "[derived: from rule R44 and every operation rule;
each command preserves them]"): every step keeps the invariant, from every state that meets it. -/
def Obligations.StepKeepsTheInvariant : Prop :=
  ∀ s t : State, Inv s → step s = .next t → Inv t

/-- `10_state.md` section 6 (the spec's inference, as above): every state reachable from hardware
reset, by any commands and further resets the outside presents, none of them refused, meets the
clauses (a) to (h). -/
def Obligations.ReachableStatesMeetR43 : Prop :=
  ∀ (events : List PortEvent) (n : Nat) (t : State),
    core.run n { State.reset with port := events } = .next t → ReachableClauses t

/-- `30_encoding.md` section 7 (the spec's inference "[derived: from `10_state.md` rule R43 (g) and
the rules that call `E`]"): in a state that meets the invariant no step needs the collaborator
without a key: the model's one fault (log entry 11) is not raised. -/
def Obligations.InvariantStatesNeverFault : Prop :=
  ∀ (s : State) (f : Fault), Inv s → step s ≠ .fault f

/-! ## Whole operations (`42_gcm.md` rule R156, `95_test_vectors.md` section 6) -/

/-- The inference of `42_gcm.md` section 3 ("[derived: from rule R140 to rule R147 ...]") and
property P1 of `95_test_vectors.md` section 6: encryption of associated data and payload in any
pieces gives `C ++ T` (where the associated data fits its buffer; otherwise the run is refused). -/
def Obligations.EncryptionComputesTheAead : Prop :=
  ∀ (k iv : Bytes) (t : Nat) (as ps : List Bytes) (pf : Bytes) (s : State),
    OperationReady false k iv t s →
    (∀ p ∈ ps, 16 ∣ p.length) →
    as.flatten.length ≤ maxLen → (ps.flatten ++ pf).length ≤ maxLen →
    if withinCap Config.aadCap as.flatten.length then
      ∃ u rs, runInstrs (encryptCommands as ps pf t) s = some (u, rs) ∧
        (∀ r ∈ rs, r.status = .ok) ∧
        outputs rs = aeadPayload k iv (ps.flatten ++ pf) ++
          aeadTag k iv as.flatten (aeadPayload k iv (ps.flatten ++ pf)) t
    else runInstrs (encryptCommands as ps pf t) s = none

/-- The inference of `42_gcm.md` section 3 ("[derived: from rule R140 to rule R147 ...]") and
property P1 of `95_test_vectors.md` section 6: decryption of the wire data `W = ws.flatten ++ wf` in
any pieces releases the plaintext exactly when the received tag is the expected one, and nothing
before (where the buffers suffice; otherwise the run is refused). -/
def Obligations.DecryptionComputesTheAead : Prop :=
  ∀ (k iv : Bytes) (t : Nat) (as ws : List Bytes) (wf : Bytes) (s : State),
    OperationReady true k iv t s → t ≤ 16 →
    as.flatten.length ≤ maxLen → (ws.flatten ++ wf).length ≤ maxLen →
    t ≤ (ws.flatten ++ wf).length →
    let w := ws.flatten ++ wf
    let c := w.take (w.length - t)
    if withinCap Config.aadCap as.flatten.length && withinCap Config.ibufCap w.length then
      ∃ u rs last, runInstrs (decryptCommands as ws wf t) s = some (u, rs ++ [last]) ∧
        (∀ r ∈ rs, r = ⟨.ok, 0, 0, []⟩) ∧
        last =
          if aeadTag k iv as.flatten c t = w.drop (w.length - t)
          then ⟨.ok, 0, c.length, aeadPayload k iv c⟩
          else ⟨.aeadBadTag, 2, 0, []⟩
    else runInstrs (decryptCommands as ws wf t) s = none

/-- Property P2 of `95_test_vectors.md` section 6: decrypting what encryption produced, with the
same key, IV, associated data and tag length, verifies and gives the plaintext back (where the
buffers suffice). -/
def Obligations.DecryptionUndoesEncryption : Prop :=
  ∀ (k iv : Bytes) (t : Nat) (a p : Bytes) (s v : State),
    OperationReady false k iv t s → OperationReady true k iv t v → t ≤ 16 →
    a.length ≤ maxLen → p.length + t ≤ maxLen →
    withinCap Config.aadCap a.length = true →
    ∃ u rs, runInstrs (encryptCommands [a] [] p t) s = some (u, rs) ∧
      (withinCap Config.ibufCap (p.length + t) = true →
        ∃ x qs, runInstrs (decryptCommands [a] [] (outputs rs) t) v = some (x, qs) ∧
          qs.getLast? = some ⟨.ok, 0, p.length, p⟩)

/-- Property P4 of `95_test_vectors.md` section 6: after `GCM.INIT`, a sequence of commands that
feed the operation, then `GCM.RESET`, then the same sequence: the responses are the same. -/
def Obligations.ResetReplaysTheOperation : Prop :=
  ∀ (is : List Instr) (s t : State) (rs : List Response),
    JustStarted s → (∀ i ∈ is, feedsOperation i = true) →
    runInstrs is s = some (t, rs) →
    ∃ u, runInstrs (.gcmReset :: is) t = some (u, ⟨.ok, 0, 0, []⟩ :: rs)

/-- Property P5 of `95_test_vectors.md` section 6: after `GCM.SAVE`, orchestrator commands other
than `GCM.INIT`, `GCM.RESET` and `GCM.SAVE`, then `GCM.RESTORE`: the state equals the one right
after the save in every register. -/
def Obligations.RestoreRollsBackToTheSavePoint : Prop :=
  ∀ (is : List Instr) (s saved t : State) (rs : List Response),
    exec .gcmSave s = .next saved → s.phase ≠ .uninit →
    (∀ i ∈ is, keepsSnapshot i = true) →
    runInstrs (is ++ [.gcmRestore]) saved = some (t, rs) →
    sameRegisters t saved ∧ t.response = some ⟨.ok, 0, 0, []⟩
end

