-- ==== Sys2Proof/Laws/Arith.lean ====
section
/-! SUPPORT. The small lemmas of Machine/Arith.lean: byte order, blocks and words, chunks, and how the
recurrences of GHASH and GCTR run over a concatenation. -/

namespace Sys2Proof.Machine

/-! ## Byte order -/

@[simp] theorem beBytes_length (n v : Nat) : (beBytes n v).length = n := by
  induction n with
  | zero => rfl
  | succ n ih => simp [beBytes, ih]

theorem foldl_be (b : Bytes) (a : Nat) :
    b.foldl (fun a x => a * 256 + x.toNat) a = a * 256 ^ b.length + beNat b := by
  induction b generalizing a with
  | nil => simp [beNat]
  | cons x b ih =>
    simp only [beNat, List.foldl_cons, List.length_cons] at ih ⊢
    rw [ih (a * 256 + x.toNat), ih (0 * 256 + x.toNat)]
    ring

@[simp] theorem beNat_nil : beNat [] = 0 := rfl

theorem beNat_cons (x : Byte) (b : Bytes) : beNat (x :: b) = x.toNat * 256 ^ b.length + beNat b := by
  have h := foldl_be b x.toNat
  simpa [beNat] using h

theorem beNat_append (a b : Bytes) : beNat (a ++ b) = beNat a * 256 ^ b.length + beNat b := by
  simp only [beNat, List.foldl_append]
  exact foldl_be b _

theorem beNat_lt (b : Bytes) : beNat b < 256 ^ b.length := by
  induction b with
  | nil => simp
  | cons x b ih =>
    rw [beNat_cons, List.length_cons, Nat.pow_succ]
    have hx : x.toNat < 256 := x.isLt
    calc x.toNat * 256 ^ b.length + beNat b
        < x.toNat * 256 ^ b.length + 256 ^ b.length := by omega
      _ = (x.toNat + 1) * 256 ^ b.length := by ring
      _ ≤ 256 * 256 ^ b.length := Nat.mul_le_mul_right _ (by omega)
      _ = 256 ^ b.length * 256 := by ring

theorem beNat_beBytes (n v : Nat) : beNat (beBytes n v) = v % 256 ^ n := by
  induction n with
  | zero => simp [beBytes, Nat.mod_one]
  | succ n ih =>
    rw [beBytes, beNat_cons, beBytes_length, ih, BitVec.toNat_ofNat]
    rw [show (2 : Nat) ^ 8 = 256 from rfl, Nat.pow_succ, Nat.mod_mul, Nat.mul_comm, Nat.add_comm]

theorem beBytes_add_mul (n v c : Nat) : beBytes n (c * 256 ^ n + v) = beBytes n v := by
  induction n generalizing c v with
  | zero => rfl
  | succ n ih =>
    have h : c * 256 ^ (n + 1) + v = (c * 256) * 256 ^ n + v := by ring
    rw [beBytes, beBytes, h, ih]
    congr 1
    apply BitVec.eq_of_toNat_eq
    rw [BitVec.toNat_ofNat, BitVec.toNat_ofNat, Nat.add_comm, Nat.add_mul_div_right _ _ (by positivity)]
    omega

theorem beBytes_beNat (b : Bytes) : beBytes b.length (beNat b) = b := by
  induction b with
  | nil => rfl
  | cons x b ih =>
    rw [List.length_cons, beBytes, beNat_cons, beBytes_add_mul, ih]
    congr 1
    apply BitVec.eq_of_toNat_eq
    have hb := beNat_lt b
    rw [BitVec.toNat_ofNat, Nat.add_comm, Nat.add_mul_div_right _ _ (by positivity),
      Nat.div_eq_of_lt hb, Nat.zero_add]
    exact Nat.mod_eq_of_lt x.isLt

theorem beBytes_append (m n v : Nat) : beBytes (m + n) v = beBytes m (v / 256 ^ n) ++ beBytes n v := by
  induction m with
  | zero => simp [beBytes]
  | succ m ih =>
    rw [show m + 1 + n = (m + n) + 1 by omega, beBytes, beBytes, ih, Nat.div_div_eq_div_mul,
      ← Nat.pow_add, Nat.add_comm n m]
    rfl

/-! ## Blocks and words (R8) -/

@[simp] theorem bytesOfBlock_length (b : Block) : (bytesOfBlock b).length = 16 := by
  simp [bytesOfBlock]

@[simp] theorem bytesOfWord_length (w : Word) : (bytesOfWord w).length = 8 := by
  simp [bytesOfWord]

@[simp] theorem blockOfBytes_bytesOfBlock (b : Block) : blockOfBytes (bytesOfBlock b) = b := by
  apply BitVec.eq_of_toNat_eq
  rw [blockOfBytes, bytesOfBlock, BitVec.toNat_ofNat, beNat_beBytes]
  have h : b.toNat < 2 ^ 128 := b.isLt
  omega

theorem bytesOfBlock_blockOfBytes {b : Bytes} (h : b.length = 16) :
    bytesOfBlock (blockOfBytes b) = b := by
  have hb := beNat_lt b
  rw [h] at hb
  rw [bytesOfBlock, blockOfBytes, BitVec.toNat_ofNat, Nat.mod_eq_of_lt (by omega), ← h]
  exact beBytes_beNat b

theorem blockOfWords_toNat (a b : Word) : (blockOfWords a b).toNat = a.toNat * 2 ^ 64 + b.toNat := by
  rw [blockOfWords, BitVec.toNat_append, Nat.shiftLeft_eq, Nat.mul_comm,
    ← Nat.two_pow_add_eq_or_of_lt b.isLt a.toNat]

theorem word0_toNat (b : Block) : (word0 b).toNat = b.toNat / 2 ^ 64 := by
  have h : b.toNat < 2 ^ 128 := b.isLt
  rw [word0, BitVec.extractLsb'_toNat, Nat.shiftRight_eq_div_pow]
  omega

theorem word1_toNat (b : Block) : (word1 b).toNat = b.toNat % 2 ^ 64 := by
  rw [word1, BitVec.extractLsb'_toNat, Nat.shiftRight_zero]

@[simp] theorem word0_blockOfWords (a b : Word) : word0 (blockOfWords a b) = a := by
  apply BitVec.eq_of_toNat_eq
  have hb : b.toNat < 2 ^ 64 := b.isLt
  rw [word0_toNat, blockOfWords_toNat]
  omega

@[simp] theorem word1_blockOfWords (a b : Word) : word1 (blockOfWords a b) = b := by
  apply BitVec.eq_of_toNat_eq
  have hb : b.toNat < 2 ^ 64 := b.isLt
  rw [word1_toNat, blockOfWords_toNat]
  omega

@[simp] theorem blockOfWords_words (b : Block) : blockOfWords (word0 b) (word1 b) = b := by
  apply BitVec.eq_of_toNat_eq
  rw [blockOfWords_toNat, word0_toNat, word1_toNat]
  omega

/-- The 16 bytes of a block are the 8 bytes of each half (R8). -/
theorem bytesOfBlock_blockOfWords (a b : Word) :
    bytesOfBlock (blockOfWords a b) = bytesOfWord a ++ bytesOfWord b := by
  have hb : b.toNat < 2 ^ 64 := b.isLt
  rw [bytesOfBlock, bytesOfWord, bytesOfWord, blockOfWords_toNat, beBytes_append 8 8]
  congr 1
  · congr 1
    rw [show (256 : Nat) ^ 8 = 2 ^ 64 from rfl]
    omega
  · exact beBytes_add_mul 8 _ _

/-- `be64` of the two halves of 16 bytes gives the words of the block they spell (R8, R23). -/
theorem words_of_bytes {b : Bytes} (h : b.length = 16) :
    word0 (blockOfBytes b) = be64 (b.take 8) ∧ word1 (blockOfBytes b) = be64 (b.drop 8) := by
  have e : blockOfBytes b = blockOfWords (be64 (b.take 8)) (be64 (b.drop 8)) := by
    apply BitVec.eq_of_toNat_eq
    have h1 := beNat_lt (b.take 8)
    have h2 := beNat_lt (b.drop 8)
    have hs := beNat_append (b.take 8) (b.drop 8)
    rw [List.take_append_drop] at hs
    simp only [List.length_take, List.length_drop, h] at h1 h2 hs
    rw [blockOfWords_toNat, blockOfBytes, be64, be64, BitVec.toNat_ofNat, BitVec.toNat_ofNat,
      BitVec.toNat_ofNat, hs]
    norm_num at h1 h2 ⊢
    omega
  rw [e]
  exact ⟨word0_blockOfWords _ _, word1_blockOfWords _ _⟩

/-! ## Chunks (R13, R14) -/

@[simp] theorem chunks_nil : chunks [] = [] := rfl

theorem chunks_cons {d : Bytes} (h : d ≠ []) : chunks d = d.take 16 :: chunks (d.drop 16) := by
  have hl : 0 < d.length := List.length_pos_iff.mpr h
  unfold chunks
  rw [show (d.length + 15) / 16 = ((d.drop 16).length + 15) / 16 + 1 by
    rw [List.length_drop]; omega]
  rfl

theorem chunks_append {a : Bytes} (h : 16 ∣ a.length) (b : Bytes) :
    chunks (a ++ b) = chunks a ++ chunks b := by
  obtain ⟨n, hn⟩ := h
  induction n generalizing a with
  | zero =>
    have : a = [] := List.length_eq_zero_iff.mp (by omega)
    subst this
    rfl
  | succ n ih =>
    have h16 : 16 ≤ a.length := by omega
    have ha : a ≠ [] := by rintro rfl; simp at h16
    rw [chunks_cons (by simp [ha]), chunks_cons ha, List.cons_append,
      List.take_append_of_le_length h16, List.drop_append_of_le_length h16,
      ih (by rw [List.length_drop]; omega)]

theorem chunks_length (d : Bytes) : (chunks d).length = (d.length + 15) / 16 := by
  have aux : ∀ (n : Nat) (d : Bytes), (chunksN n d).length = n := by
    intro n
    induction n with
    | zero => intro d; rfl
    | succ n ih => intro d; simp [chunksN, ih]
  exact aux _ _

/-- The chunks of a byte string, one after the other, are the string. -/
theorem chunks_flatten (d : Bytes) : (chunks d).flatten = d := by
  induction hn : d.length using Nat.strong_induction_on generalizing d with
  | _ n ih =>
    by_cases h : d = []
    · subst h; rfl
    · have hl : 0 < d.length := List.length_pos_iff.mpr h
      rw [chunks_cons h, List.flatten_cons, ih _ (by rw [← hn, List.length_drop]; omega) _ rfl,
        List.take_append_drop]

/-! ## The recurrences over a concatenation -/

@[simp] theorem ghashFrom_nil (h0 h1 : Word) (z : Word × Word) : ghashFrom h0 h1 z [] = z := rfl

/-- The hash recurrence runs on over a concatenation whose first part is whole blocks (R107). -/
theorem ghashFrom_append {a : Bytes} (h : 16 ∣ a.length) (h0 h1 : Word) (z : Word × Word)
    (b : Bytes) : ghashFrom h0 h1 z (a ++ b) = ghashFrom h0 h1 (ghashFrom h0 h1 z a) b := by
  simp only [ghashFrom, chunks_append h, List.foldl_append]

theorem gctrChunks_append (e : Block → Block) (xs ys : List Bytes) (cb : Block) :
    gctrChunks e (xs ++ ys) cb =
      ((gctrChunks e xs cb).1 ++ (gctrChunks e ys (gctrChunks e xs cb).2).1,
        (gctrChunks e ys (gctrChunks e xs cb).2).2) := by
  induction xs generalizing cb with
  | nil => simp [gctrChunks]
  | cons x xs ih => simp [gctrChunks, ih]

/-- The keystream runs on over a concatenation whose first part is whole blocks (R126). -/
theorem gctrFn_append (e : Block → Block) {a : Bytes} (h : 16 ∣ a.length) (cb : Block) (b : Bytes) :
    gctrFn e cb (a ++ b) =
      ((gctrFn e cb a).1 ++ (gctrFn e (gctrFn e cb a).2 b).1, (gctrFn e (gctrFn e cb a).2 b).2) := by
  simp only [gctrFn, chunks_append h, gctrChunks_append]

end Sys2Proof.Machine
end

