-- ==== Sys2Proof/Laws/Decode.lean ====
section
/-! SUPPORT. The one row of the opcode map with free bits, `GCM.INIT` (`30_encoding.md` rules R82,
R84): which words select it. -/

namespace Sys2Proof

/-- Whatever `D` and `TL` are, the encoder's word for `GCM.INIT` matches its row (R84). -/
theorem commandWord_init_matches (d : Bool) (tl : Nat) :
    commandWord 0x30 d tl &&& 0xFF00FEFF#32 = 0x30#32 := by
  unfold commandWord
  generalize BitVec.ofNat 8 tl = b
  apply BitVec.eq_of_getLsbD_eq
  intro i hi
  interval_cases i <;> simp

/-- A word that matches the row of `GCM.INIT` selects it: no earlier row matches it (R84, R88). -/
theorem selectRow_init {cw : BitVec 32} (h : cw &&& 0xFF00FEFF#32 = 0x30#32) :
    selectRow cw = some ⟨"GCM.INIT", 0x00000030#32, 0xFF00FEFF#32, formatI .gcmInit⟩ := by
  have h8 : cw &&& 0xFF#32 = 0x30#32 := by
    have h' := congrArg (fun x => x &&& 0xFF#32) h
    simpa [BitVec.and_assoc] using h'
  have other : ∀ p : BitVec 32, p &&& 0xFF#32 ≠ 0x30#32 → (cw &&& 0xFFFFFFFF#32 == p) = false := by
    intro p hp
    rw [beq_eq_false_iff_ne]
    rintro rfl
    exact hp (by simpa [BitVec.and_assoc] using h8)
  simp (disch := decide) only [selectRow, opcodeMap, OpRow.selects, List.cons_append,
    List.nil_append, List.find?_cons, other, h, beq_self_eq_true]

end Sys2Proof
end

