-- ==== Sys2Proof/Laws/State.lean ====
section
/-! SUPPORT. Every register update of Machine/Ops.lean, one lemma per field: what the update writes
and what it leaves. A proof that simplifies with these unfolds no record update. -/

namespace Sys2Proof.Machine

namespace State

variable (s : State)

/-! ### `respond` -/

@[simp] theorem respond_ck (r : Response) : (s.respond r).ck = s.ck := rfl
@[simp] theorem respond_ghInit (r : Response) : (s.respond r).ghInit = s.ghInit := rfl
@[simp] theorem respond_h0 (r : Response) : (s.respond r).h0 = s.h0 := rfl
@[simp] theorem respond_h1 (r : Response) : (s.respond r).h1 = s.h1 := rfl
@[simp] theorem respond_s0 (r : Response) : (s.respond r).s0 = s.s0 := rfl
@[simp] theorem respond_s1 (r : Response) : (s.respond r).s1 = s.s1 := rfl
@[simp] theorem respond_ghSv (r : Response) : (s.respond r).ghSv = s.ghSv := rfl
@[simp] theorem respond_ss0 (r : Response) : (s.respond r).ss0 = s.ss0 := rfl
@[simp] theorem respond_ss1 (r : Response) : (s.respond r).ss1 = s.ss1 := rfl
@[simp] theorem respond_gcInit (r : Response) : (s.respond r).gcInit = s.gcInit := rfl
@[simp] theorem respond_icb (r : Response) : (s.respond r).icb = s.icb := rfl
@[simp] theorem respond_ctr (r : Response) : (s.respond r).ctr = s.ctr := rfl
@[simp] theorem respond_gcSv (r : Response) : (s.respond r).gcSv = s.gcSv := rfl
@[simp] theorem respond_ctrs (r : Response) : (s.respond r).ctrs = s.ctrs := rfl
@[simp] theorem respond_phase (r : Response) : (s.respond r).phase = s.phase := rfl
@[simp] theorem respond_dec (r : Response) : (s.respond r).dec = s.dec := rfl
@[simp] theorem respond_taglen (r : Response) : (s.respond r).taglen = s.taglen := rfl
@[simp] theorem respond_j0 (r : Response) : (s.respond r).j0 = s.j0 := rfl
@[simp] theorem respond_aad (r : Response) : (s.respond r).aad = s.aad := rfl
@[simp] theorem respond_aadlen (r : Response) : (s.respond r).aadlen = s.aadlen := rfl
@[simp] theorem respond_proc (r : Response) : (s.respond r).proc = s.proc := rfl
@[simp] theorem respond_ibuf (r : Response) : (s.respond r).ibuf = s.ibuf := rfl
@[simp] theorem respond_gmSv (r : Response) : (s.respond r).gmSv = s.gmSv := rfl
@[simp] theorem respond_sPhase (r : Response) : (s.respond r).sPhase = s.sPhase := rfl
@[simp] theorem respond_sAad (r : Response) : (s.respond r).sAad = s.sAad := rfl
@[simp] theorem respond_sAadlen (r : Response) : (s.respond r).sAadlen = s.sAadlen := rfl
@[simp] theorem respond_sProc (r : Response) : (s.respond r).sProc = s.sProc := rfl
@[simp] theorem respond_sIbuf (r : Response) : (s.respond r).sIbuf = s.sIbuf := rfl
@[simp] theorem respond_port (r : Response) : (s.respond r).port = s.port := rfl
@[simp] theorem respond_response (r : Response) : (s.respond r).response = some r := rfl

/-! ### `takeEvent` -/

@[simp] theorem takeEvent_ck (rest : List PortEvent) : (s.takeEvent rest).ck = s.ck := rfl
@[simp] theorem takeEvent_ghInit (rest : List PortEvent) : (s.takeEvent rest).ghInit = s.ghInit := rfl
@[simp] theorem takeEvent_h0 (rest : List PortEvent) : (s.takeEvent rest).h0 = s.h0 := rfl
@[simp] theorem takeEvent_h1 (rest : List PortEvent) : (s.takeEvent rest).h1 = s.h1 := rfl
@[simp] theorem takeEvent_s0 (rest : List PortEvent) : (s.takeEvent rest).s0 = s.s0 := rfl
@[simp] theorem takeEvent_s1 (rest : List PortEvent) : (s.takeEvent rest).s1 = s.s1 := rfl
@[simp] theorem takeEvent_ghSv (rest : List PortEvent) : (s.takeEvent rest).ghSv = s.ghSv := rfl
@[simp] theorem takeEvent_ss0 (rest : List PortEvent) : (s.takeEvent rest).ss0 = s.ss0 := rfl
@[simp] theorem takeEvent_ss1 (rest : List PortEvent) : (s.takeEvent rest).ss1 = s.ss1 := rfl
@[simp] theorem takeEvent_gcInit (rest : List PortEvent) : (s.takeEvent rest).gcInit = s.gcInit := rfl
@[simp] theorem takeEvent_icb (rest : List PortEvent) : (s.takeEvent rest).icb = s.icb := rfl
@[simp] theorem takeEvent_ctr (rest : List PortEvent) : (s.takeEvent rest).ctr = s.ctr := rfl
@[simp] theorem takeEvent_gcSv (rest : List PortEvent) : (s.takeEvent rest).gcSv = s.gcSv := rfl
@[simp] theorem takeEvent_ctrs (rest : List PortEvent) : (s.takeEvent rest).ctrs = s.ctrs := rfl
@[simp] theorem takeEvent_phase (rest : List PortEvent) : (s.takeEvent rest).phase = s.phase := rfl
@[simp] theorem takeEvent_dec (rest : List PortEvent) : (s.takeEvent rest).dec = s.dec := rfl
@[simp] theorem takeEvent_taglen (rest : List PortEvent) : (s.takeEvent rest).taglen = s.taglen := rfl
@[simp] theorem takeEvent_j0 (rest : List PortEvent) : (s.takeEvent rest).j0 = s.j0 := rfl
@[simp] theorem takeEvent_aad (rest : List PortEvent) : (s.takeEvent rest).aad = s.aad := rfl
@[simp] theorem takeEvent_aadlen (rest : List PortEvent) : (s.takeEvent rest).aadlen = s.aadlen := rfl
@[simp] theorem takeEvent_proc (rest : List PortEvent) : (s.takeEvent rest).proc = s.proc := rfl
@[simp] theorem takeEvent_ibuf (rest : List PortEvent) : (s.takeEvent rest).ibuf = s.ibuf := rfl
@[simp] theorem takeEvent_gmSv (rest : List PortEvent) : (s.takeEvent rest).gmSv = s.gmSv := rfl
@[simp] theorem takeEvent_sPhase (rest : List PortEvent) : (s.takeEvent rest).sPhase = s.sPhase := rfl
@[simp] theorem takeEvent_sAad (rest : List PortEvent) : (s.takeEvent rest).sAad = s.sAad := rfl
@[simp] theorem takeEvent_sAadlen (rest : List PortEvent) : (s.takeEvent rest).sAadlen = s.sAadlen := rfl
@[simp] theorem takeEvent_sProc (rest : List PortEvent) : (s.takeEvent rest).sProc = s.sProc := rfl
@[simp] theorem takeEvent_sIbuf (rest : List PortEvent) : (s.takeEvent rest).sIbuf = s.sIbuf := rfl
@[simp] theorem takeEvent_port (rest : List PortEvent) : (s.takeEvent rest).port = rest := rfl
@[simp] theorem takeEvent_response (rest : List PortEvent) : (s.takeEvent rest).response = s.response := rfl

/-! ### `loadSubkey` -/

@[simp] theorem loadSubkey_ck (h : Block) : (s.loadSubkey h).ck = s.ck := rfl
@[simp] theorem loadSubkey_ghInit (h : Block) : (s.loadSubkey h).ghInit = true := rfl
@[simp] theorem loadSubkey_h0 (h : Block) : (s.loadSubkey h).h0 = word0 h := rfl
@[simp] theorem loadSubkey_h1 (h : Block) : (s.loadSubkey h).h1 = word1 h := rfl
@[simp] theorem loadSubkey_s0 (h : Block) : (s.loadSubkey h).s0 = 0 := rfl
@[simp] theorem loadSubkey_s1 (h : Block) : (s.loadSubkey h).s1 = 0 := rfl
@[simp] theorem loadSubkey_ghSv (h : Block) : (s.loadSubkey h).ghSv = false := rfl
@[simp] theorem loadSubkey_ss0 (h : Block) : (s.loadSubkey h).ss0 = s.ss0 := rfl
@[simp] theorem loadSubkey_ss1 (h : Block) : (s.loadSubkey h).ss1 = s.ss1 := rfl
@[simp] theorem loadSubkey_gcInit (h : Block) : (s.loadSubkey h).gcInit = s.gcInit := rfl
@[simp] theorem loadSubkey_icb (h : Block) : (s.loadSubkey h).icb = s.icb := rfl
@[simp] theorem loadSubkey_ctr (h : Block) : (s.loadSubkey h).ctr = s.ctr := rfl
@[simp] theorem loadSubkey_gcSv (h : Block) : (s.loadSubkey h).gcSv = s.gcSv := rfl
@[simp] theorem loadSubkey_ctrs (h : Block) : (s.loadSubkey h).ctrs = s.ctrs := rfl
@[simp] theorem loadSubkey_phase (h : Block) : (s.loadSubkey h).phase = s.phase := rfl
@[simp] theorem loadSubkey_dec (h : Block) : (s.loadSubkey h).dec = s.dec := rfl
@[simp] theorem loadSubkey_taglen (h : Block) : (s.loadSubkey h).taglen = s.taglen := rfl
@[simp] theorem loadSubkey_j0 (h : Block) : (s.loadSubkey h).j0 = s.j0 := rfl
@[simp] theorem loadSubkey_aad (h : Block) : (s.loadSubkey h).aad = s.aad := rfl
@[simp] theorem loadSubkey_aadlen (h : Block) : (s.loadSubkey h).aadlen = s.aadlen := rfl
@[simp] theorem loadSubkey_proc (h : Block) : (s.loadSubkey h).proc = s.proc := rfl
@[simp] theorem loadSubkey_ibuf (h : Block) : (s.loadSubkey h).ibuf = s.ibuf := rfl
@[simp] theorem loadSubkey_gmSv (h : Block) : (s.loadSubkey h).gmSv = s.gmSv := rfl
@[simp] theorem loadSubkey_sPhase (h : Block) : (s.loadSubkey h).sPhase = s.sPhase := rfl
@[simp] theorem loadSubkey_sAad (h : Block) : (s.loadSubkey h).sAad = s.sAad := rfl
@[simp] theorem loadSubkey_sAadlen (h : Block) : (s.loadSubkey h).sAadlen = s.sAadlen := rfl
@[simp] theorem loadSubkey_sProc (h : Block) : (s.loadSubkey h).sProc = s.sProc := rfl
@[simp] theorem loadSubkey_sIbuf (h : Block) : (s.loadSubkey h).sIbuf = s.sIbuf := rfl
@[simp] theorem loadSubkey_port (h : Block) : (s.loadSubkey h).port = s.port := rfl
@[simp] theorem loadSubkey_response (h : Block) : (s.loadSubkey h).response = s.response := rfl

/-! ### `setAcc` -/

@[simp] theorem setAcc_ck (z : Word × Word) : (s.setAcc z).ck = s.ck := rfl
@[simp] theorem setAcc_ghInit (z : Word × Word) : (s.setAcc z).ghInit = s.ghInit := rfl
@[simp] theorem setAcc_h0 (z : Word × Word) : (s.setAcc z).h0 = s.h0 := rfl
@[simp] theorem setAcc_h1 (z : Word × Word) : (s.setAcc z).h1 = s.h1 := rfl
@[simp] theorem setAcc_s0 (z : Word × Word) : (s.setAcc z).s0 = z.1 := rfl
@[simp] theorem setAcc_s1 (z : Word × Word) : (s.setAcc z).s1 = z.2 := rfl
@[simp] theorem setAcc_ghSv (z : Word × Word) : (s.setAcc z).ghSv = s.ghSv := rfl
@[simp] theorem setAcc_ss0 (z : Word × Word) : (s.setAcc z).ss0 = s.ss0 := rfl
@[simp] theorem setAcc_ss1 (z : Word × Word) : (s.setAcc z).ss1 = s.ss1 := rfl
@[simp] theorem setAcc_gcInit (z : Word × Word) : (s.setAcc z).gcInit = s.gcInit := rfl
@[simp] theorem setAcc_icb (z : Word × Word) : (s.setAcc z).icb = s.icb := rfl
@[simp] theorem setAcc_ctr (z : Word × Word) : (s.setAcc z).ctr = s.ctr := rfl
@[simp] theorem setAcc_gcSv (z : Word × Word) : (s.setAcc z).gcSv = s.gcSv := rfl
@[simp] theorem setAcc_ctrs (z : Word × Word) : (s.setAcc z).ctrs = s.ctrs := rfl
@[simp] theorem setAcc_phase (z : Word × Word) : (s.setAcc z).phase = s.phase := rfl
@[simp] theorem setAcc_dec (z : Word × Word) : (s.setAcc z).dec = s.dec := rfl
@[simp] theorem setAcc_taglen (z : Word × Word) : (s.setAcc z).taglen = s.taglen := rfl
@[simp] theorem setAcc_j0 (z : Word × Word) : (s.setAcc z).j0 = s.j0 := rfl
@[simp] theorem setAcc_aad (z : Word × Word) : (s.setAcc z).aad = s.aad := rfl
@[simp] theorem setAcc_aadlen (z : Word × Word) : (s.setAcc z).aadlen = s.aadlen := rfl
@[simp] theorem setAcc_proc (z : Word × Word) : (s.setAcc z).proc = s.proc := rfl
@[simp] theorem setAcc_ibuf (z : Word × Word) : (s.setAcc z).ibuf = s.ibuf := rfl
@[simp] theorem setAcc_gmSv (z : Word × Word) : (s.setAcc z).gmSv = s.gmSv := rfl
@[simp] theorem setAcc_sPhase (z : Word × Word) : (s.setAcc z).sPhase = s.sPhase := rfl
@[simp] theorem setAcc_sAad (z : Word × Word) : (s.setAcc z).sAad = s.sAad := rfl
@[simp] theorem setAcc_sAadlen (z : Word × Word) : (s.setAcc z).sAadlen = s.sAadlen := rfl
@[simp] theorem setAcc_sProc (z : Word × Word) : (s.setAcc z).sProc = s.sProc := rfl
@[simp] theorem setAcc_sIbuf (z : Word × Word) : (s.setAcc z).sIbuf = s.sIbuf := rfl
@[simp] theorem setAcc_port (z : Word × Word) : (s.setAcc z).port = s.port := rfl
@[simp] theorem setAcc_response (z : Word × Word) : (s.setAcc z).response = s.response := rfl

/-! ### `saveAcc` -/

@[simp] theorem saveAcc_ck : s.saveAcc.ck = s.ck := rfl
@[simp] theorem saveAcc_ghInit : s.saveAcc.ghInit = s.ghInit := rfl
@[simp] theorem saveAcc_h0 : s.saveAcc.h0 = s.h0 := rfl
@[simp] theorem saveAcc_h1 : s.saveAcc.h1 = s.h1 := rfl
@[simp] theorem saveAcc_s0 : s.saveAcc.s0 = s.s0 := rfl
@[simp] theorem saveAcc_s1 : s.saveAcc.s1 = s.s1 := rfl
@[simp] theorem saveAcc_ghSv : s.saveAcc.ghSv = true := rfl
@[simp] theorem saveAcc_ss0 : s.saveAcc.ss0 = s.s0 := rfl
@[simp] theorem saveAcc_ss1 : s.saveAcc.ss1 = s.s1 := rfl
@[simp] theorem saveAcc_gcInit : s.saveAcc.gcInit = s.gcInit := rfl
@[simp] theorem saveAcc_icb : s.saveAcc.icb = s.icb := rfl
@[simp] theorem saveAcc_ctr : s.saveAcc.ctr = s.ctr := rfl
@[simp] theorem saveAcc_gcSv : s.saveAcc.gcSv = s.gcSv := rfl
@[simp] theorem saveAcc_ctrs : s.saveAcc.ctrs = s.ctrs := rfl
@[simp] theorem saveAcc_phase : s.saveAcc.phase = s.phase := rfl
@[simp] theorem saveAcc_dec : s.saveAcc.dec = s.dec := rfl
@[simp] theorem saveAcc_taglen : s.saveAcc.taglen = s.taglen := rfl
@[simp] theorem saveAcc_j0 : s.saveAcc.j0 = s.j0 := rfl
@[simp] theorem saveAcc_aad : s.saveAcc.aad = s.aad := rfl
@[simp] theorem saveAcc_aadlen : s.saveAcc.aadlen = s.aadlen := rfl
@[simp] theorem saveAcc_proc : s.saveAcc.proc = s.proc := rfl
@[simp] theorem saveAcc_ibuf : s.saveAcc.ibuf = s.ibuf := rfl
@[simp] theorem saveAcc_gmSv : s.saveAcc.gmSv = s.gmSv := rfl
@[simp] theorem saveAcc_sPhase : s.saveAcc.sPhase = s.sPhase := rfl
@[simp] theorem saveAcc_sAad : s.saveAcc.sAad = s.sAad := rfl
@[simp] theorem saveAcc_sAadlen : s.saveAcc.sAadlen = s.sAadlen := rfl
@[simp] theorem saveAcc_sProc : s.saveAcc.sProc = s.sProc := rfl
@[simp] theorem saveAcc_sIbuf : s.saveAcc.sIbuf = s.sIbuf := rfl
@[simp] theorem saveAcc_port : s.saveAcc.port = s.port := rfl
@[simp] theorem saveAcc_response : s.saveAcc.response = s.response := rfl

/-! ### `loadCounter` -/

@[simp] theorem loadCounter_ck (b : Block) : (s.loadCounter b).ck = s.ck := rfl
@[simp] theorem loadCounter_ghInit (b : Block) : (s.loadCounter b).ghInit = s.ghInit := rfl
@[simp] theorem loadCounter_h0 (b : Block) : (s.loadCounter b).h0 = s.h0 := rfl
@[simp] theorem loadCounter_h1 (b : Block) : (s.loadCounter b).h1 = s.h1 := rfl
@[simp] theorem loadCounter_s0 (b : Block) : (s.loadCounter b).s0 = s.s0 := rfl
@[simp] theorem loadCounter_s1 (b : Block) : (s.loadCounter b).s1 = s.s1 := rfl
@[simp] theorem loadCounter_ghSv (b : Block) : (s.loadCounter b).ghSv = s.ghSv := rfl
@[simp] theorem loadCounter_ss0 (b : Block) : (s.loadCounter b).ss0 = s.ss0 := rfl
@[simp] theorem loadCounter_ss1 (b : Block) : (s.loadCounter b).ss1 = s.ss1 := rfl
@[simp] theorem loadCounter_gcInit (b : Block) : (s.loadCounter b).gcInit = true := rfl
@[simp] theorem loadCounter_icb (b : Block) : (s.loadCounter b).icb = b := rfl
@[simp] theorem loadCounter_ctr (b : Block) : (s.loadCounter b).ctr = b := rfl
@[simp] theorem loadCounter_gcSv (b : Block) : (s.loadCounter b).gcSv = false := rfl
@[simp] theorem loadCounter_ctrs (b : Block) : (s.loadCounter b).ctrs = s.ctrs := rfl
@[simp] theorem loadCounter_phase (b : Block) : (s.loadCounter b).phase = s.phase := rfl
@[simp] theorem loadCounter_dec (b : Block) : (s.loadCounter b).dec = s.dec := rfl
@[simp] theorem loadCounter_taglen (b : Block) : (s.loadCounter b).taglen = s.taglen := rfl
@[simp] theorem loadCounter_j0 (b : Block) : (s.loadCounter b).j0 = s.j0 := rfl
@[simp] theorem loadCounter_aad (b : Block) : (s.loadCounter b).aad = s.aad := rfl
@[simp] theorem loadCounter_aadlen (b : Block) : (s.loadCounter b).aadlen = s.aadlen := rfl
@[simp] theorem loadCounter_proc (b : Block) : (s.loadCounter b).proc = s.proc := rfl
@[simp] theorem loadCounter_ibuf (b : Block) : (s.loadCounter b).ibuf = s.ibuf := rfl
@[simp] theorem loadCounter_gmSv (b : Block) : (s.loadCounter b).gmSv = s.gmSv := rfl
@[simp] theorem loadCounter_sPhase (b : Block) : (s.loadCounter b).sPhase = s.sPhase := rfl
@[simp] theorem loadCounter_sAad (b : Block) : (s.loadCounter b).sAad = s.sAad := rfl
@[simp] theorem loadCounter_sAadlen (b : Block) : (s.loadCounter b).sAadlen = s.sAadlen := rfl
@[simp] theorem loadCounter_sProc (b : Block) : (s.loadCounter b).sProc = s.sProc := rfl
@[simp] theorem loadCounter_sIbuf (b : Block) : (s.loadCounter b).sIbuf = s.sIbuf := rfl
@[simp] theorem loadCounter_port (b : Block) : (s.loadCounter b).port = s.port := rfl
@[simp] theorem loadCounter_response (b : Block) : (s.loadCounter b).response = s.response := rfl

/-! ### `setCtr` -/

@[simp] theorem setCtr_ck (b : Block) : (s.setCtr b).ck = s.ck := rfl
@[simp] theorem setCtr_ghInit (b : Block) : (s.setCtr b).ghInit = s.ghInit := rfl
@[simp] theorem setCtr_h0 (b : Block) : (s.setCtr b).h0 = s.h0 := rfl
@[simp] theorem setCtr_h1 (b : Block) : (s.setCtr b).h1 = s.h1 := rfl
@[simp] theorem setCtr_s0 (b : Block) : (s.setCtr b).s0 = s.s0 := rfl
@[simp] theorem setCtr_s1 (b : Block) : (s.setCtr b).s1 = s.s1 := rfl
@[simp] theorem setCtr_ghSv (b : Block) : (s.setCtr b).ghSv = s.ghSv := rfl
@[simp] theorem setCtr_ss0 (b : Block) : (s.setCtr b).ss0 = s.ss0 := rfl
@[simp] theorem setCtr_ss1 (b : Block) : (s.setCtr b).ss1 = s.ss1 := rfl
@[simp] theorem setCtr_gcInit (b : Block) : (s.setCtr b).gcInit = s.gcInit := rfl
@[simp] theorem setCtr_icb (b : Block) : (s.setCtr b).icb = s.icb := rfl
@[simp] theorem setCtr_ctr (b : Block) : (s.setCtr b).ctr = b := rfl
@[simp] theorem setCtr_gcSv (b : Block) : (s.setCtr b).gcSv = s.gcSv := rfl
@[simp] theorem setCtr_ctrs (b : Block) : (s.setCtr b).ctrs = s.ctrs := rfl
@[simp] theorem setCtr_phase (b : Block) : (s.setCtr b).phase = s.phase := rfl
@[simp] theorem setCtr_dec (b : Block) : (s.setCtr b).dec = s.dec := rfl
@[simp] theorem setCtr_taglen (b : Block) : (s.setCtr b).taglen = s.taglen := rfl
@[simp] theorem setCtr_j0 (b : Block) : (s.setCtr b).j0 = s.j0 := rfl
@[simp] theorem setCtr_aad (b : Block) : (s.setCtr b).aad = s.aad := rfl
@[simp] theorem setCtr_aadlen (b : Block) : (s.setCtr b).aadlen = s.aadlen := rfl
@[simp] theorem setCtr_proc (b : Block) : (s.setCtr b).proc = s.proc := rfl
@[simp] theorem setCtr_ibuf (b : Block) : (s.setCtr b).ibuf = s.ibuf := rfl
@[simp] theorem setCtr_gmSv (b : Block) : (s.setCtr b).gmSv = s.gmSv := rfl
@[simp] theorem setCtr_sPhase (b : Block) : (s.setCtr b).sPhase = s.sPhase := rfl
@[simp] theorem setCtr_sAad (b : Block) : (s.setCtr b).sAad = s.sAad := rfl
@[simp] theorem setCtr_sAadlen (b : Block) : (s.setCtr b).sAadlen = s.sAadlen := rfl
@[simp] theorem setCtr_sProc (b : Block) : (s.setCtr b).sProc = s.sProc := rfl
@[simp] theorem setCtr_sIbuf (b : Block) : (s.setCtr b).sIbuf = s.sIbuf := rfl
@[simp] theorem setCtr_port (b : Block) : (s.setCtr b).port = s.port := rfl
@[simp] theorem setCtr_response (b : Block) : (s.setCtr b).response = s.response := rfl

/-! ### `resetCtr` -/

@[simp] theorem resetCtr_ck : s.resetCtr.ck = s.ck := rfl
@[simp] theorem resetCtr_ghInit : s.resetCtr.ghInit = s.ghInit := rfl
@[simp] theorem resetCtr_h0 : s.resetCtr.h0 = s.h0 := rfl
@[simp] theorem resetCtr_h1 : s.resetCtr.h1 = s.h1 := rfl
@[simp] theorem resetCtr_s0 : s.resetCtr.s0 = s.s0 := rfl
@[simp] theorem resetCtr_s1 : s.resetCtr.s1 = s.s1 := rfl
@[simp] theorem resetCtr_ghSv : s.resetCtr.ghSv = s.ghSv := rfl
@[simp] theorem resetCtr_ss0 : s.resetCtr.ss0 = s.ss0 := rfl
@[simp] theorem resetCtr_ss1 : s.resetCtr.ss1 = s.ss1 := rfl
@[simp] theorem resetCtr_gcInit : s.resetCtr.gcInit = s.gcInit := rfl
@[simp] theorem resetCtr_icb : s.resetCtr.icb = s.icb := rfl
@[simp] theorem resetCtr_ctr : s.resetCtr.ctr = s.icb := rfl
@[simp] theorem resetCtr_gcSv : s.resetCtr.gcSv = false := rfl
@[simp] theorem resetCtr_ctrs : s.resetCtr.ctrs = s.ctrs := rfl
@[simp] theorem resetCtr_phase : s.resetCtr.phase = s.phase := rfl
@[simp] theorem resetCtr_dec : s.resetCtr.dec = s.dec := rfl
@[simp] theorem resetCtr_taglen : s.resetCtr.taglen = s.taglen := rfl
@[simp] theorem resetCtr_j0 : s.resetCtr.j0 = s.j0 := rfl
@[simp] theorem resetCtr_aad : s.resetCtr.aad = s.aad := rfl
@[simp] theorem resetCtr_aadlen : s.resetCtr.aadlen = s.aadlen := rfl
@[simp] theorem resetCtr_proc : s.resetCtr.proc = s.proc := rfl
@[simp] theorem resetCtr_ibuf : s.resetCtr.ibuf = s.ibuf := rfl
@[simp] theorem resetCtr_gmSv : s.resetCtr.gmSv = s.gmSv := rfl
@[simp] theorem resetCtr_sPhase : s.resetCtr.sPhase = s.sPhase := rfl
@[simp] theorem resetCtr_sAad : s.resetCtr.sAad = s.sAad := rfl
@[simp] theorem resetCtr_sAadlen : s.resetCtr.sAadlen = s.sAadlen := rfl
@[simp] theorem resetCtr_sProc : s.resetCtr.sProc = s.sProc := rfl
@[simp] theorem resetCtr_sIbuf : s.resetCtr.sIbuf = s.sIbuf := rfl
@[simp] theorem resetCtr_port : s.resetCtr.port = s.port := rfl
@[simp] theorem resetCtr_response : s.resetCtr.response = s.response := rfl

/-! ### `saveCtr` -/

@[simp] theorem saveCtr_ck : s.saveCtr.ck = s.ck := rfl
@[simp] theorem saveCtr_ghInit : s.saveCtr.ghInit = s.ghInit := rfl
@[simp] theorem saveCtr_h0 : s.saveCtr.h0 = s.h0 := rfl
@[simp] theorem saveCtr_h1 : s.saveCtr.h1 = s.h1 := rfl
@[simp] theorem saveCtr_s0 : s.saveCtr.s0 = s.s0 := rfl
@[simp] theorem saveCtr_s1 : s.saveCtr.s1 = s.s1 := rfl
@[simp] theorem saveCtr_ghSv : s.saveCtr.ghSv = s.ghSv := rfl
@[simp] theorem saveCtr_ss0 : s.saveCtr.ss0 = s.ss0 := rfl
@[simp] theorem saveCtr_ss1 : s.saveCtr.ss1 = s.ss1 := rfl
@[simp] theorem saveCtr_gcInit : s.saveCtr.gcInit = s.gcInit := rfl
@[simp] theorem saveCtr_icb : s.saveCtr.icb = s.icb := rfl
@[simp] theorem saveCtr_ctr : s.saveCtr.ctr = s.ctr := rfl
@[simp] theorem saveCtr_gcSv : s.saveCtr.gcSv = true := rfl
@[simp] theorem saveCtr_ctrs : s.saveCtr.ctrs = s.ctr := rfl
@[simp] theorem saveCtr_phase : s.saveCtr.phase = s.phase := rfl
@[simp] theorem saveCtr_dec : s.saveCtr.dec = s.dec := rfl
@[simp] theorem saveCtr_taglen : s.saveCtr.taglen = s.taglen := rfl
@[simp] theorem saveCtr_j0 : s.saveCtr.j0 = s.j0 := rfl
@[simp] theorem saveCtr_aad : s.saveCtr.aad = s.aad := rfl
@[simp] theorem saveCtr_aadlen : s.saveCtr.aadlen = s.aadlen := rfl
@[simp] theorem saveCtr_proc : s.saveCtr.proc = s.proc := rfl
@[simp] theorem saveCtr_ibuf : s.saveCtr.ibuf = s.ibuf := rfl
@[simp] theorem saveCtr_gmSv : s.saveCtr.gmSv = s.gmSv := rfl
@[simp] theorem saveCtr_sPhase : s.saveCtr.sPhase = s.sPhase := rfl
@[simp] theorem saveCtr_sAad : s.saveCtr.sAad = s.sAad := rfl
@[simp] theorem saveCtr_sAadlen : s.saveCtr.sAadlen = s.sAadlen := rfl
@[simp] theorem saveCtr_sProc : s.saveCtr.sProc = s.sProc := rfl
@[simp] theorem saveCtr_sIbuf : s.saveCtr.sIbuf = s.sIbuf := rfl
@[simp] theorem saveCtr_port : s.saveCtr.port = s.port := rfl
@[simp] theorem saveCtr_response : s.saveCtr.response = s.response := rfl

/-! ### `setPhase` -/

@[simp] theorem setPhase_ck (p : Phase) : (s.setPhase p).ck = s.ck := rfl
@[simp] theorem setPhase_ghInit (p : Phase) : (s.setPhase p).ghInit = s.ghInit := rfl
@[simp] theorem setPhase_h0 (p : Phase) : (s.setPhase p).h0 = s.h0 := rfl
@[simp] theorem setPhase_h1 (p : Phase) : (s.setPhase p).h1 = s.h1 := rfl
@[simp] theorem setPhase_s0 (p : Phase) : (s.setPhase p).s0 = s.s0 := rfl
@[simp] theorem setPhase_s1 (p : Phase) : (s.setPhase p).s1 = s.s1 := rfl
@[simp] theorem setPhase_ghSv (p : Phase) : (s.setPhase p).ghSv = s.ghSv := rfl
@[simp] theorem setPhase_ss0 (p : Phase) : (s.setPhase p).ss0 = s.ss0 := rfl
@[simp] theorem setPhase_ss1 (p : Phase) : (s.setPhase p).ss1 = s.ss1 := rfl
@[simp] theorem setPhase_gcInit (p : Phase) : (s.setPhase p).gcInit = s.gcInit := rfl
@[simp] theorem setPhase_icb (p : Phase) : (s.setPhase p).icb = s.icb := rfl
@[simp] theorem setPhase_ctr (p : Phase) : (s.setPhase p).ctr = s.ctr := rfl
@[simp] theorem setPhase_gcSv (p : Phase) : (s.setPhase p).gcSv = s.gcSv := rfl
@[simp] theorem setPhase_ctrs (p : Phase) : (s.setPhase p).ctrs = s.ctrs := rfl
@[simp] theorem setPhase_phase (p : Phase) : (s.setPhase p).phase = p := rfl
@[simp] theorem setPhase_dec (p : Phase) : (s.setPhase p).dec = s.dec := rfl
@[simp] theorem setPhase_taglen (p : Phase) : (s.setPhase p).taglen = s.taglen := rfl
@[simp] theorem setPhase_j0 (p : Phase) : (s.setPhase p).j0 = s.j0 := rfl
@[simp] theorem setPhase_aad (p : Phase) : (s.setPhase p).aad = s.aad := rfl
@[simp] theorem setPhase_aadlen (p : Phase) : (s.setPhase p).aadlen = s.aadlen := rfl
@[simp] theorem setPhase_proc (p : Phase) : (s.setPhase p).proc = s.proc := rfl
@[simp] theorem setPhase_ibuf (p : Phase) : (s.setPhase p).ibuf = s.ibuf := rfl
@[simp] theorem setPhase_gmSv (p : Phase) : (s.setPhase p).gmSv = s.gmSv := rfl
@[simp] theorem setPhase_sPhase (p : Phase) : (s.setPhase p).sPhase = s.sPhase := rfl
@[simp] theorem setPhase_sAad (p : Phase) : (s.setPhase p).sAad = s.sAad := rfl
@[simp] theorem setPhase_sAadlen (p : Phase) : (s.setPhase p).sAadlen = s.sAadlen := rfl
@[simp] theorem setPhase_sProc (p : Phase) : (s.setPhase p).sProc = s.sProc := rfl
@[simp] theorem setPhase_sIbuf (p : Phase) : (s.setPhase p).sIbuf = s.sIbuf := rfl
@[simp] theorem setPhase_port (p : Phase) : (s.setPhase p).port = s.port := rfl
@[simp] theorem setPhase_response (p : Phase) : (s.setPhase p).response = s.response := rfl

/-! ### `setKey` -/

@[simp] theorem setKey_ck (k : Key) : (s.setKey k).ck = some k := rfl
@[simp] theorem setKey_ghInit (k : Key) : (s.setKey k).ghInit = s.ghInit := rfl
@[simp] theorem setKey_h0 (k : Key) : (s.setKey k).h0 = s.h0 := rfl
@[simp] theorem setKey_h1 (k : Key) : (s.setKey k).h1 = s.h1 := rfl
@[simp] theorem setKey_s0 (k : Key) : (s.setKey k).s0 = s.s0 := rfl
@[simp] theorem setKey_s1 (k : Key) : (s.setKey k).s1 = s.s1 := rfl
@[simp] theorem setKey_ghSv (k : Key) : (s.setKey k).ghSv = s.ghSv := rfl
@[simp] theorem setKey_ss0 (k : Key) : (s.setKey k).ss0 = s.ss0 := rfl
@[simp] theorem setKey_ss1 (k : Key) : (s.setKey k).ss1 = s.ss1 := rfl
@[simp] theorem setKey_gcInit (k : Key) : (s.setKey k).gcInit = s.gcInit := rfl
@[simp] theorem setKey_icb (k : Key) : (s.setKey k).icb = s.icb := rfl
@[simp] theorem setKey_ctr (k : Key) : (s.setKey k).ctr = s.ctr := rfl
@[simp] theorem setKey_gcSv (k : Key) : (s.setKey k).gcSv = s.gcSv := rfl
@[simp] theorem setKey_ctrs (k : Key) : (s.setKey k).ctrs = s.ctrs := rfl
@[simp] theorem setKey_phase (k : Key) : (s.setKey k).phase = s.phase := rfl
@[simp] theorem setKey_dec (k : Key) : (s.setKey k).dec = s.dec := rfl
@[simp] theorem setKey_taglen (k : Key) : (s.setKey k).taglen = s.taglen := rfl
@[simp] theorem setKey_j0 (k : Key) : (s.setKey k).j0 = s.j0 := rfl
@[simp] theorem setKey_aad (k : Key) : (s.setKey k).aad = s.aad := rfl
@[simp] theorem setKey_aadlen (k : Key) : (s.setKey k).aadlen = s.aadlen := rfl
@[simp] theorem setKey_proc (k : Key) : (s.setKey k).proc = s.proc := rfl
@[simp] theorem setKey_ibuf (k : Key) : (s.setKey k).ibuf = s.ibuf := rfl
@[simp] theorem setKey_gmSv (k : Key) : (s.setKey k).gmSv = s.gmSv := rfl
@[simp] theorem setKey_sPhase (k : Key) : (s.setKey k).sPhase = s.sPhase := rfl
@[simp] theorem setKey_sAad (k : Key) : (s.setKey k).sAad = s.sAad := rfl
@[simp] theorem setKey_sAadlen (k : Key) : (s.setKey k).sAadlen = s.sAadlen := rfl
@[simp] theorem setKey_sProc (k : Key) : (s.setKey k).sProc = s.sProc := rfl
@[simp] theorem setKey_sIbuf (k : Key) : (s.setKey k).sIbuf = s.sIbuf := rfl
@[simp] theorem setKey_port (k : Key) : (s.setKey k).port = s.port := rfl
@[simp] theorem setKey_response (k : Key) : (s.setKey k).response = s.response := rfl

/-! ### `appendAad` -/

@[simp] theorem appendAad_ck (d : Bytes) : (s.appendAad d).ck = s.ck := rfl
@[simp] theorem appendAad_ghInit (d : Bytes) : (s.appendAad d).ghInit = s.ghInit := rfl
@[simp] theorem appendAad_h0 (d : Bytes) : (s.appendAad d).h0 = s.h0 := rfl
@[simp] theorem appendAad_h1 (d : Bytes) : (s.appendAad d).h1 = s.h1 := rfl
@[simp] theorem appendAad_s0 (d : Bytes) : (s.appendAad d).s0 = s.s0 := rfl
@[simp] theorem appendAad_s1 (d : Bytes) : (s.appendAad d).s1 = s.s1 := rfl
@[simp] theorem appendAad_ghSv (d : Bytes) : (s.appendAad d).ghSv = s.ghSv := rfl
@[simp] theorem appendAad_ss0 (d : Bytes) : (s.appendAad d).ss0 = s.ss0 := rfl
@[simp] theorem appendAad_ss1 (d : Bytes) : (s.appendAad d).ss1 = s.ss1 := rfl
@[simp] theorem appendAad_gcInit (d : Bytes) : (s.appendAad d).gcInit = s.gcInit := rfl
@[simp] theorem appendAad_icb (d : Bytes) : (s.appendAad d).icb = s.icb := rfl
@[simp] theorem appendAad_ctr (d : Bytes) : (s.appendAad d).ctr = s.ctr := rfl
@[simp] theorem appendAad_gcSv (d : Bytes) : (s.appendAad d).gcSv = s.gcSv := rfl
@[simp] theorem appendAad_ctrs (d : Bytes) : (s.appendAad d).ctrs = s.ctrs := rfl
@[simp] theorem appendAad_phase (d : Bytes) : (s.appendAad d).phase = s.phase := rfl
@[simp] theorem appendAad_dec (d : Bytes) : (s.appendAad d).dec = s.dec := rfl
@[simp] theorem appendAad_taglen (d : Bytes) : (s.appendAad d).taglen = s.taglen := rfl
@[simp] theorem appendAad_j0 (d : Bytes) : (s.appendAad d).j0 = s.j0 := rfl
@[simp] theorem appendAad_aad (d : Bytes) : (s.appendAad d).aad = s.aad ++ d := rfl
@[simp] theorem appendAad_aadlen (d : Bytes) : (s.appendAad d).aadlen = s.aadlen := rfl
@[simp] theorem appendAad_proc (d : Bytes) : (s.appendAad d).proc = s.proc := rfl
@[simp] theorem appendAad_ibuf (d : Bytes) : (s.appendAad d).ibuf = s.ibuf := rfl
@[simp] theorem appendAad_gmSv (d : Bytes) : (s.appendAad d).gmSv = s.gmSv := rfl
@[simp] theorem appendAad_sPhase (d : Bytes) : (s.appendAad d).sPhase = s.sPhase := rfl
@[simp] theorem appendAad_sAad (d : Bytes) : (s.appendAad d).sAad = s.sAad := rfl
@[simp] theorem appendAad_sAadlen (d : Bytes) : (s.appendAad d).sAadlen = s.sAadlen := rfl
@[simp] theorem appendAad_sProc (d : Bytes) : (s.appendAad d).sProc = s.sProc := rfl
@[simp] theorem appendAad_sIbuf (d : Bytes) : (s.appendAad d).sIbuf = s.sIbuf := rfl
@[simp] theorem appendAad_port (d : Bytes) : (s.appendAad d).port = s.port := rfl
@[simp] theorem appendAad_response (d : Bytes) : (s.appendAad d).response = s.response := rfl

/-! ### `appendIbuf` -/

@[simp] theorem appendIbuf_ck (d : Bytes) : (s.appendIbuf d).ck = s.ck := rfl
@[simp] theorem appendIbuf_ghInit (d : Bytes) : (s.appendIbuf d).ghInit = s.ghInit := rfl
@[simp] theorem appendIbuf_h0 (d : Bytes) : (s.appendIbuf d).h0 = s.h0 := rfl
@[simp] theorem appendIbuf_h1 (d : Bytes) : (s.appendIbuf d).h1 = s.h1 := rfl
@[simp] theorem appendIbuf_s0 (d : Bytes) : (s.appendIbuf d).s0 = s.s0 := rfl
@[simp] theorem appendIbuf_s1 (d : Bytes) : (s.appendIbuf d).s1 = s.s1 := rfl
@[simp] theorem appendIbuf_ghSv (d : Bytes) : (s.appendIbuf d).ghSv = s.ghSv := rfl
@[simp] theorem appendIbuf_ss0 (d : Bytes) : (s.appendIbuf d).ss0 = s.ss0 := rfl
@[simp] theorem appendIbuf_ss1 (d : Bytes) : (s.appendIbuf d).ss1 = s.ss1 := rfl
@[simp] theorem appendIbuf_gcInit (d : Bytes) : (s.appendIbuf d).gcInit = s.gcInit := rfl
@[simp] theorem appendIbuf_icb (d : Bytes) : (s.appendIbuf d).icb = s.icb := rfl
@[simp] theorem appendIbuf_ctr (d : Bytes) : (s.appendIbuf d).ctr = s.ctr := rfl
@[simp] theorem appendIbuf_gcSv (d : Bytes) : (s.appendIbuf d).gcSv = s.gcSv := rfl
@[simp] theorem appendIbuf_ctrs (d : Bytes) : (s.appendIbuf d).ctrs = s.ctrs := rfl
@[simp] theorem appendIbuf_phase (d : Bytes) : (s.appendIbuf d).phase = s.phase := rfl
@[simp] theorem appendIbuf_dec (d : Bytes) : (s.appendIbuf d).dec = s.dec := rfl
@[simp] theorem appendIbuf_taglen (d : Bytes) : (s.appendIbuf d).taglen = s.taglen := rfl
@[simp] theorem appendIbuf_j0 (d : Bytes) : (s.appendIbuf d).j0 = s.j0 := rfl
@[simp] theorem appendIbuf_aad (d : Bytes) : (s.appendIbuf d).aad = s.aad := rfl
@[simp] theorem appendIbuf_aadlen (d : Bytes) : (s.appendIbuf d).aadlen = s.aadlen := rfl
@[simp] theorem appendIbuf_proc (d : Bytes) : (s.appendIbuf d).proc = s.proc := rfl
@[simp] theorem appendIbuf_ibuf (d : Bytes) : (s.appendIbuf d).ibuf = s.ibuf ++ d := rfl
@[simp] theorem appendIbuf_gmSv (d : Bytes) : (s.appendIbuf d).gmSv = s.gmSv := rfl
@[simp] theorem appendIbuf_sPhase (d : Bytes) : (s.appendIbuf d).sPhase = s.sPhase := rfl
@[simp] theorem appendIbuf_sAad (d : Bytes) : (s.appendIbuf d).sAad = s.sAad := rfl
@[simp] theorem appendIbuf_sAadlen (d : Bytes) : (s.appendIbuf d).sAadlen = s.sAadlen := rfl
@[simp] theorem appendIbuf_sProc (d : Bytes) : (s.appendIbuf d).sProc = s.sProc := rfl
@[simp] theorem appendIbuf_sIbuf (d : Bytes) : (s.appendIbuf d).sIbuf = s.sIbuf := rfl
@[simp] theorem appendIbuf_port (d : Bytes) : (s.appendIbuf d).port = s.port := rfl
@[simp] theorem appendIbuf_response (d : Bytes) : (s.appendIbuf d).response = s.response := rfl

/-! ### `addProc` -/

@[simp] theorem addProc_ck (n : Nat) : (s.addProc n).ck = s.ck := rfl
@[simp] theorem addProc_ghInit (n : Nat) : (s.addProc n).ghInit = s.ghInit := rfl
@[simp] theorem addProc_h0 (n : Nat) : (s.addProc n).h0 = s.h0 := rfl
@[simp] theorem addProc_h1 (n : Nat) : (s.addProc n).h1 = s.h1 := rfl
@[simp] theorem addProc_s0 (n : Nat) : (s.addProc n).s0 = s.s0 := rfl
@[simp] theorem addProc_s1 (n : Nat) : (s.addProc n).s1 = s.s1 := rfl
@[simp] theorem addProc_ghSv (n : Nat) : (s.addProc n).ghSv = s.ghSv := rfl
@[simp] theorem addProc_ss0 (n : Nat) : (s.addProc n).ss0 = s.ss0 := rfl
@[simp] theorem addProc_ss1 (n : Nat) : (s.addProc n).ss1 = s.ss1 := rfl
@[simp] theorem addProc_gcInit (n : Nat) : (s.addProc n).gcInit = s.gcInit := rfl
@[simp] theorem addProc_icb (n : Nat) : (s.addProc n).icb = s.icb := rfl
@[simp] theorem addProc_ctr (n : Nat) : (s.addProc n).ctr = s.ctr := rfl
@[simp] theorem addProc_gcSv (n : Nat) : (s.addProc n).gcSv = s.gcSv := rfl
@[simp] theorem addProc_ctrs (n : Nat) : (s.addProc n).ctrs = s.ctrs := rfl
@[simp] theorem addProc_phase (n : Nat) : (s.addProc n).phase = s.phase := rfl
@[simp] theorem addProc_dec (n : Nat) : (s.addProc n).dec = s.dec := rfl
@[simp] theorem addProc_taglen (n : Nat) : (s.addProc n).taglen = s.taglen := rfl
@[simp] theorem addProc_j0 (n : Nat) : (s.addProc n).j0 = s.j0 := rfl
@[simp] theorem addProc_aad (n : Nat) : (s.addProc n).aad = s.aad := rfl
@[simp] theorem addProc_aadlen (n : Nat) : (s.addProc n).aadlen = s.aadlen := rfl
@[simp] theorem addProc_proc (n : Nat) : (s.addProc n).proc = s.proc + n := rfl
@[simp] theorem addProc_ibuf (n : Nat) : (s.addProc n).ibuf = s.ibuf := rfl
@[simp] theorem addProc_gmSv (n : Nat) : (s.addProc n).gmSv = s.gmSv := rfl
@[simp] theorem addProc_sPhase (n : Nat) : (s.addProc n).sPhase = s.sPhase := rfl
@[simp] theorem addProc_sAad (n : Nat) : (s.addProc n).sAad = s.sAad := rfl
@[simp] theorem addProc_sAadlen (n : Nat) : (s.addProc n).sAadlen = s.sAadlen := rfl
@[simp] theorem addProc_sProc (n : Nat) : (s.addProc n).sProc = s.sProc := rfl
@[simp] theorem addProc_sIbuf (n : Nat) : (s.addProc n).sIbuf = s.sIbuf := rfl
@[simp] theorem addProc_port (n : Nat) : (s.addProc n).port = s.port := rfl
@[simp] theorem addProc_response (n : Nat) : (s.addProc n).response = s.response := rfl

/-! ### `sealRegs` -/

@[simp] theorem sealRegs_ck : s.sealRegs.ck = s.ck := rfl
@[simp] theorem sealRegs_ghInit : s.sealRegs.ghInit = s.ghInit := rfl
@[simp] theorem sealRegs_h0 : s.sealRegs.h0 = s.h0 := rfl
@[simp] theorem sealRegs_h1 : s.sealRegs.h1 = s.h1 := rfl
@[simp] theorem sealRegs_s0 : s.sealRegs.s0 = s.s0 := rfl
@[simp] theorem sealRegs_s1 : s.sealRegs.s1 = s.s1 := rfl
@[simp] theorem sealRegs_ghSv : s.sealRegs.ghSv = s.ghSv := rfl
@[simp] theorem sealRegs_ss0 : s.sealRegs.ss0 = s.ss0 := rfl
@[simp] theorem sealRegs_ss1 : s.sealRegs.ss1 = s.ss1 := rfl
@[simp] theorem sealRegs_gcInit : s.sealRegs.gcInit = s.gcInit := rfl
@[simp] theorem sealRegs_icb : s.sealRegs.icb = s.icb := rfl
@[simp] theorem sealRegs_ctr : s.sealRegs.ctr = s.ctr := rfl
@[simp] theorem sealRegs_gcSv : s.sealRegs.gcSv = s.gcSv := rfl
@[simp] theorem sealRegs_ctrs : s.sealRegs.ctrs = s.ctrs := rfl
@[simp] theorem sealRegs_phase : s.sealRegs.phase = .sealed := rfl
@[simp] theorem sealRegs_dec : s.sealRegs.dec = s.dec := rfl
@[simp] theorem sealRegs_taglen : s.sealRegs.taglen = s.taglen := rfl
@[simp] theorem sealRegs_j0 : s.sealRegs.j0 = s.j0 := rfl
@[simp] theorem sealRegs_aad : s.sealRegs.aad = [] := rfl
@[simp] theorem sealRegs_aadlen : s.sealRegs.aadlen = s.aad.length := rfl
@[simp] theorem sealRegs_proc : s.sealRegs.proc = s.proc := rfl
@[simp] theorem sealRegs_ibuf : s.sealRegs.ibuf = s.ibuf := rfl
@[simp] theorem sealRegs_gmSv : s.sealRegs.gmSv = s.gmSv := rfl
@[simp] theorem sealRegs_sPhase : s.sealRegs.sPhase = s.sPhase := rfl
@[simp] theorem sealRegs_sAad : s.sealRegs.sAad = s.sAad := rfl
@[simp] theorem sealRegs_sAadlen : s.sealRegs.sAadlen = s.sAadlen := rfl
@[simp] theorem sealRegs_sProc : s.sealRegs.sProc = s.sProc := rfl
@[simp] theorem sealRegs_sIbuf : s.sealRegs.sIbuf = s.sIbuf := rfl
@[simp] theorem sealRegs_port : s.sealRegs.port = s.port := rfl
@[simp] theorem sealRegs_response : s.sealRegs.response = s.response := rfl

/-! ### `setOperation` -/

@[simp] theorem setOperation_ck (d : Bool) (t : Nat) (j : Block) : (s.setOperation d t j).ck = s.ck := rfl
@[simp] theorem setOperation_ghInit (d : Bool) (t : Nat) (j : Block) : (s.setOperation d t j).ghInit = s.ghInit := rfl
@[simp] theorem setOperation_h0 (d : Bool) (t : Nat) (j : Block) : (s.setOperation d t j).h0 = s.h0 := rfl
@[simp] theorem setOperation_h1 (d : Bool) (t : Nat) (j : Block) : (s.setOperation d t j).h1 = s.h1 := rfl
@[simp] theorem setOperation_s0 (d : Bool) (t : Nat) (j : Block) : (s.setOperation d t j).s0 = s.s0 := rfl
@[simp] theorem setOperation_s1 (d : Bool) (t : Nat) (j : Block) : (s.setOperation d t j).s1 = s.s1 := rfl
@[simp] theorem setOperation_ghSv (d : Bool) (t : Nat) (j : Block) : (s.setOperation d t j).ghSv = s.ghSv := rfl
@[simp] theorem setOperation_ss0 (d : Bool) (t : Nat) (j : Block) : (s.setOperation d t j).ss0 = s.ss0 := rfl
@[simp] theorem setOperation_ss1 (d : Bool) (t : Nat) (j : Block) : (s.setOperation d t j).ss1 = s.ss1 := rfl
@[simp] theorem setOperation_gcInit (d : Bool) (t : Nat) (j : Block) : (s.setOperation d t j).gcInit = s.gcInit := rfl
@[simp] theorem setOperation_icb (d : Bool) (t : Nat) (j : Block) : (s.setOperation d t j).icb = s.icb := rfl
@[simp] theorem setOperation_ctr (d : Bool) (t : Nat) (j : Block) : (s.setOperation d t j).ctr = s.ctr := rfl
@[simp] theorem setOperation_gcSv (d : Bool) (t : Nat) (j : Block) : (s.setOperation d t j).gcSv = s.gcSv := rfl
@[simp] theorem setOperation_ctrs (d : Bool) (t : Nat) (j : Block) : (s.setOperation d t j).ctrs = s.ctrs := rfl
@[simp] theorem setOperation_phase (d : Bool) (t : Nat) (j : Block) : (s.setOperation d t j).phase = s.phase := rfl
@[simp] theorem setOperation_dec (d : Bool) (t : Nat) (j : Block) : (s.setOperation d t j).dec = d := rfl
@[simp] theorem setOperation_taglen (d : Bool) (t : Nat) (j : Block) : (s.setOperation d t j).taglen = t := rfl
@[simp] theorem setOperation_j0 (d : Bool) (t : Nat) (j : Block) : (s.setOperation d t j).j0 = j := rfl
@[simp] theorem setOperation_aad (d : Bool) (t : Nat) (j : Block) : (s.setOperation d t j).aad = s.aad := rfl
@[simp] theorem setOperation_aadlen (d : Bool) (t : Nat) (j : Block) : (s.setOperation d t j).aadlen = s.aadlen := rfl
@[simp] theorem setOperation_proc (d : Bool) (t : Nat) (j : Block) : (s.setOperation d t j).proc = s.proc := rfl
@[simp] theorem setOperation_ibuf (d : Bool) (t : Nat) (j : Block) : (s.setOperation d t j).ibuf = s.ibuf := rfl
@[simp] theorem setOperation_gmSv (d : Bool) (t : Nat) (j : Block) : (s.setOperation d t j).gmSv = s.gmSv := rfl
@[simp] theorem setOperation_sPhase (d : Bool) (t : Nat) (j : Block) : (s.setOperation d t j).sPhase = s.sPhase := rfl
@[simp] theorem setOperation_sAad (d : Bool) (t : Nat) (j : Block) : (s.setOperation d t j).sAad = s.sAad := rfl
@[simp] theorem setOperation_sAadlen (d : Bool) (t : Nat) (j : Block) : (s.setOperation d t j).sAadlen = s.sAadlen := rfl
@[simp] theorem setOperation_sProc (d : Bool) (t : Nat) (j : Block) : (s.setOperation d t j).sProc = s.sProc := rfl
@[simp] theorem setOperation_sIbuf (d : Bool) (t : Nat) (j : Block) : (s.setOperation d t j).sIbuf = s.sIbuf := rfl
@[simp] theorem setOperation_port (d : Bool) (t : Nat) (j : Block) : (s.setOperation d t j).port = s.port := rfl
@[simp] theorem setOperation_response (d : Bool) (t : Nat) (j : Block) : (s.setOperation d t j).response = s.response := rfl

/-! ### `clearBuffers` -/

@[simp] theorem clearBuffers_ck : s.clearBuffers.ck = s.ck := rfl
@[simp] theorem clearBuffers_ghInit : s.clearBuffers.ghInit = s.ghInit := rfl
@[simp] theorem clearBuffers_h0 : s.clearBuffers.h0 = s.h0 := rfl
@[simp] theorem clearBuffers_h1 : s.clearBuffers.h1 = s.h1 := rfl
@[simp] theorem clearBuffers_s0 : s.clearBuffers.s0 = s.s0 := rfl
@[simp] theorem clearBuffers_s1 : s.clearBuffers.s1 = s.s1 := rfl
@[simp] theorem clearBuffers_ghSv : s.clearBuffers.ghSv = s.ghSv := rfl
@[simp] theorem clearBuffers_ss0 : s.clearBuffers.ss0 = s.ss0 := rfl
@[simp] theorem clearBuffers_ss1 : s.clearBuffers.ss1 = s.ss1 := rfl
@[simp] theorem clearBuffers_gcInit : s.clearBuffers.gcInit = s.gcInit := rfl
@[simp] theorem clearBuffers_icb : s.clearBuffers.icb = s.icb := rfl
@[simp] theorem clearBuffers_ctr : s.clearBuffers.ctr = s.ctr := rfl
@[simp] theorem clearBuffers_gcSv : s.clearBuffers.gcSv = s.gcSv := rfl
@[simp] theorem clearBuffers_ctrs : s.clearBuffers.ctrs = s.ctrs := rfl
@[simp] theorem clearBuffers_phase : s.clearBuffers.phase = .init := rfl
@[simp] theorem clearBuffers_dec : s.clearBuffers.dec = s.dec := rfl
@[simp] theorem clearBuffers_taglen : s.clearBuffers.taglen = s.taglen := rfl
@[simp] theorem clearBuffers_j0 : s.clearBuffers.j0 = s.j0 := rfl
@[simp] theorem clearBuffers_aad : s.clearBuffers.aad = [] := rfl
@[simp] theorem clearBuffers_aadlen : s.clearBuffers.aadlen = 0 := rfl
@[simp] theorem clearBuffers_proc : s.clearBuffers.proc = 0 := rfl
@[simp] theorem clearBuffers_ibuf : s.clearBuffers.ibuf = [] := rfl
@[simp] theorem clearBuffers_gmSv : s.clearBuffers.gmSv = false := rfl
@[simp] theorem clearBuffers_sPhase : s.clearBuffers.sPhase = s.sPhase := rfl
@[simp] theorem clearBuffers_sAad : s.clearBuffers.sAad = s.sAad := rfl
@[simp] theorem clearBuffers_sAadlen : s.clearBuffers.sAadlen = s.sAadlen := rfl
@[simp] theorem clearBuffers_sProc : s.clearBuffers.sProc = s.sProc := rfl
@[simp] theorem clearBuffers_sIbuf : s.clearBuffers.sIbuf = s.sIbuf := rfl
@[simp] theorem clearBuffers_port : s.clearBuffers.port = s.port := rfl
@[simp] theorem clearBuffers_response : s.clearBuffers.response = s.response := rfl

/-! ### `resetBuffers` -/

@[simp] theorem resetBuffers_ck : s.resetBuffers.ck = s.ck := rfl
@[simp] theorem resetBuffers_ghInit : s.resetBuffers.ghInit = s.ghInit := rfl
@[simp] theorem resetBuffers_h0 : s.resetBuffers.h0 = s.h0 := rfl
@[simp] theorem resetBuffers_h1 : s.resetBuffers.h1 = s.h1 := rfl
@[simp] theorem resetBuffers_s0 : s.resetBuffers.s0 = s.s0 := rfl
@[simp] theorem resetBuffers_s1 : s.resetBuffers.s1 = s.s1 := rfl
@[simp] theorem resetBuffers_ghSv : s.resetBuffers.ghSv = s.ghSv := rfl
@[simp] theorem resetBuffers_ss0 : s.resetBuffers.ss0 = s.ss0 := rfl
@[simp] theorem resetBuffers_ss1 : s.resetBuffers.ss1 = s.ss1 := rfl
@[simp] theorem resetBuffers_gcInit : s.resetBuffers.gcInit = s.gcInit := rfl
@[simp] theorem resetBuffers_icb : s.resetBuffers.icb = s.icb := rfl
@[simp] theorem resetBuffers_ctr : s.resetBuffers.ctr = s.ctr := rfl
@[simp] theorem resetBuffers_gcSv : s.resetBuffers.gcSv = s.gcSv := rfl
@[simp] theorem resetBuffers_ctrs : s.resetBuffers.ctrs = s.ctrs := rfl
@[simp] theorem resetBuffers_phase : s.resetBuffers.phase = .init := rfl
@[simp] theorem resetBuffers_dec : s.resetBuffers.dec = s.dec := rfl
@[simp] theorem resetBuffers_taglen : s.resetBuffers.taglen = s.taglen := rfl
@[simp] theorem resetBuffers_j0 : s.resetBuffers.j0 = s.j0 := rfl
@[simp] theorem resetBuffers_aad : s.resetBuffers.aad = [] := rfl
@[simp] theorem resetBuffers_aadlen : s.resetBuffers.aadlen = 0 := rfl
@[simp] theorem resetBuffers_proc : s.resetBuffers.proc = 0 := rfl
@[simp] theorem resetBuffers_ibuf : s.resetBuffers.ibuf = if s.dec then [] else s.ibuf := rfl
@[simp] theorem resetBuffers_gmSv : s.resetBuffers.gmSv = s.gmSv := rfl
@[simp] theorem resetBuffers_sPhase : s.resetBuffers.sPhase = s.sPhase := rfl
@[simp] theorem resetBuffers_sAad : s.resetBuffers.sAad = s.sAad := rfl
@[simp] theorem resetBuffers_sAadlen : s.resetBuffers.sAadlen = s.sAadlen := rfl
@[simp] theorem resetBuffers_sProc : s.resetBuffers.sProc = s.sProc := rfl
@[simp] theorem resetBuffers_sIbuf : s.resetBuffers.sIbuf = s.sIbuf := rfl
@[simp] theorem resetBuffers_port : s.resetBuffers.port = s.port := rfl
@[simp] theorem resetBuffers_response : s.resetBuffers.response = s.response := rfl

/-! ### `saveOperation` -/

@[simp] theorem saveOperation_ck : s.saveOperation.ck = s.ck := rfl
@[simp] theorem saveOperation_ghInit : s.saveOperation.ghInit = s.ghInit := rfl
@[simp] theorem saveOperation_h0 : s.saveOperation.h0 = s.h0 := rfl
@[simp] theorem saveOperation_h1 : s.saveOperation.h1 = s.h1 := rfl
@[simp] theorem saveOperation_s0 : s.saveOperation.s0 = s.s0 := rfl
@[simp] theorem saveOperation_s1 : s.saveOperation.s1 = s.s1 := rfl
@[simp] theorem saveOperation_ghSv : s.saveOperation.ghSv = s.ghSv := rfl
@[simp] theorem saveOperation_ss0 : s.saveOperation.ss0 = s.ss0 := rfl
@[simp] theorem saveOperation_ss1 : s.saveOperation.ss1 = s.ss1 := rfl
@[simp] theorem saveOperation_gcInit : s.saveOperation.gcInit = s.gcInit := rfl
@[simp] theorem saveOperation_icb : s.saveOperation.icb = s.icb := rfl
@[simp] theorem saveOperation_ctr : s.saveOperation.ctr = s.ctr := rfl
@[simp] theorem saveOperation_gcSv : s.saveOperation.gcSv = s.gcSv := rfl
@[simp] theorem saveOperation_ctrs : s.saveOperation.ctrs = s.ctrs := rfl
@[simp] theorem saveOperation_phase : s.saveOperation.phase = s.phase := rfl
@[simp] theorem saveOperation_dec : s.saveOperation.dec = s.dec := rfl
@[simp] theorem saveOperation_taglen : s.saveOperation.taglen = s.taglen := rfl
@[simp] theorem saveOperation_j0 : s.saveOperation.j0 = s.j0 := rfl
@[simp] theorem saveOperation_aad : s.saveOperation.aad = s.aad := rfl
@[simp] theorem saveOperation_aadlen : s.saveOperation.aadlen = s.aadlen := rfl
@[simp] theorem saveOperation_proc : s.saveOperation.proc = s.proc := rfl
@[simp] theorem saveOperation_ibuf : s.saveOperation.ibuf = s.ibuf := rfl
@[simp] theorem saveOperation_gmSv : s.saveOperation.gmSv = true := rfl
@[simp] theorem saveOperation_sPhase : s.saveOperation.sPhase = s.phase := rfl
@[simp] theorem saveOperation_sAad : s.saveOperation.sAad = s.aad := rfl
@[simp] theorem saveOperation_sAadlen : s.saveOperation.sAadlen = s.aadlen := rfl
@[simp] theorem saveOperation_sProc : s.saveOperation.sProc = s.proc := rfl
@[simp] theorem saveOperation_sIbuf : s.saveOperation.sIbuf = s.ibuf := rfl
@[simp] theorem saveOperation_port : s.saveOperation.port = s.port := rfl
@[simp] theorem saveOperation_response : s.saveOperation.response = s.response := rfl

/-! ### `restoreOperation` -/

@[simp] theorem restoreOperation_ck : s.restoreOperation.ck = s.ck := rfl
@[simp] theorem restoreOperation_ghInit : s.restoreOperation.ghInit = s.ghInit := rfl
@[simp] theorem restoreOperation_h0 : s.restoreOperation.h0 = s.h0 := rfl
@[simp] theorem restoreOperation_h1 : s.restoreOperation.h1 = s.h1 := rfl
@[simp] theorem restoreOperation_s0 : s.restoreOperation.s0 = s.s0 := rfl
@[simp] theorem restoreOperation_s1 : s.restoreOperation.s1 = s.s1 := rfl
@[simp] theorem restoreOperation_ghSv : s.restoreOperation.ghSv = s.ghSv := rfl
@[simp] theorem restoreOperation_ss0 : s.restoreOperation.ss0 = s.ss0 := rfl
@[simp] theorem restoreOperation_ss1 : s.restoreOperation.ss1 = s.ss1 := rfl
@[simp] theorem restoreOperation_gcInit : s.restoreOperation.gcInit = s.gcInit := rfl
@[simp] theorem restoreOperation_icb : s.restoreOperation.icb = s.icb := rfl
@[simp] theorem restoreOperation_ctr : s.restoreOperation.ctr = s.ctr := rfl
@[simp] theorem restoreOperation_gcSv : s.restoreOperation.gcSv = s.gcSv := rfl
@[simp] theorem restoreOperation_ctrs : s.restoreOperation.ctrs = s.ctrs := rfl
@[simp] theorem restoreOperation_phase : s.restoreOperation.phase = s.sPhase := rfl
@[simp] theorem restoreOperation_dec : s.restoreOperation.dec = s.dec := rfl
@[simp] theorem restoreOperation_taglen : s.restoreOperation.taglen = s.taglen := rfl
@[simp] theorem restoreOperation_j0 : s.restoreOperation.j0 = s.j0 := rfl
@[simp] theorem restoreOperation_aad : s.restoreOperation.aad = s.sAad := rfl
@[simp] theorem restoreOperation_aadlen : s.restoreOperation.aadlen = s.sAadlen := rfl
@[simp] theorem restoreOperation_proc : s.restoreOperation.proc = s.sProc := rfl
@[simp] theorem restoreOperation_ibuf : s.restoreOperation.ibuf = s.sIbuf := rfl
@[simp] theorem restoreOperation_gmSv : s.restoreOperation.gmSv = s.gmSv := rfl
@[simp] theorem restoreOperation_sPhase : s.restoreOperation.sPhase = s.sPhase := rfl
@[simp] theorem restoreOperation_sAad : s.restoreOperation.sAad = s.sAad := rfl
@[simp] theorem restoreOperation_sAadlen : s.restoreOperation.sAadlen = s.sAadlen := rfl
@[simp] theorem restoreOperation_sProc : s.restoreOperation.sProc = s.sProc := rfl
@[simp] theorem restoreOperation_sIbuf : s.restoreOperation.sIbuf = s.sIbuf := rfl
@[simp] theorem restoreOperation_port : s.restoreOperation.port = s.port := rfl
@[simp] theorem restoreOperation_response : s.restoreOperation.response = s.response := rfl

/-! ### Updates that are one of the above -/

@[simp] theorem clearAcc_eq : s.clearAcc = s.setAcc (0, 0) := rfl
@[simp] theorem restoreAcc_eq : s.restoreAcc = s.setAcc (s.ss0, s.ss1) := rfl
@[simp] theorem rewindCtr_eq : s.rewindCtr = s.setCtr s.icb := rfl
@[simp] theorem restoreCtr_eq : s.restoreCtr = s.setCtr s.ctrs := rfl

/-- Writing the accumulator twice is writing it once. -/
@[simp] theorem setAcc_setAcc (y z : Word × Word) : (s.setAcc y).setAcc z = s.setAcc z := rfl
/-- Writing the accumulator's own value changes nothing. -/
@[simp] theorem setAcc_self : s.setAcc (s.s0, s.s1) = s := rfl
/-- Writing the counter twice is writing it once. -/
@[simp] theorem setCtr_setCtr (a b : Block) : (s.setCtr a).setCtr b = s.setCtr b := rfl

end State

end Sys2Proof.Machine
end

