-- ==== Sys2Proof/Laws/Ops.lean ====
section
/-! SUPPORT. One lemma for each shared operation of Machine/Ops.lean, Machine/Operands.lean and
Machine/Flags.lean that says all it can do. -/

namespace Sys2Proof.Machine

/-! ## Outcomes -/

/-- Raising an error always answers a next state: `s` with the error's response (R183, R188). -/
theorem raise_eq (st : Status) (info : BitVec 8) (s : State) :
    raise st info s = .next (s.respond ⟨st, info, 0, []⟩) := rfl

/-- `return (OK, n, out)` always answers a next state (R9). -/
theorem finish_eq (n : Int) (out : Bytes) (s : State) :
    finish n out s = .next (s.respond ⟨.ok, 0, n, out⟩) := rfl

/-- A refusal is no next state (R186). -/
theorem refuse_eq (r : Refusal) : refuse r = .refused r := rfl

@[simp] theorem raise_next_iff (st : Status) (info : BitVec 8) (s t : State) :
    raise st info s = .next t ↔ t = s.respond ⟨st, info, 0, []⟩ := by
  simp [raise, eq_comm]

@[simp] theorem finish_next_iff (n : Int) (out : Bytes) (s t : State) :
    finish n out s = .next t ↔ t = s.respond ⟨.ok, 0, n, out⟩ := by
  simp [finish, eq_comm]

@[simp] theorem refuse_next_iff (r : Refusal) (t : State) : refuse r = .next t ↔ False := by
  simp [refuse]

@[simp] theorem raise_refused_iff (st : Status) (info : BitVec 8) (s : State) (r : Refusal) :
    raise st info s = .refused r ↔ False := by simp [raise]

@[simp] theorem finish_refused_iff (n : Int) (out : Bytes) (s : State) (r : Refusal) :
    finish n out s = .refused r ↔ False := by simp [finish]

@[simp] theorem refuse_refused_iff (q r : Refusal) : refuse q = .refused r ↔ r = q := by
  simp [refuse, eq_comm]

@[simp] theorem raise_fault_iff (st : Status) (info : BitVec 8) (s : State) (f : Fault) :
    raise st info s = .fault f ↔ False := by simp [raise]

@[simp] theorem finish_fault_iff (n : Int) (out : Bytes) (s : State) (f : Fault) :
    finish n out s = .fault f ↔ False := by simp [finish]

@[simp] theorem refuse_fault_iff (r : Refusal) (f : Fault) : refuse r = .fault f ↔ False := by
  simp [refuse]

/-- With a key in `CK` the rest of the rule runs with it. -/
theorem withKey_some {s : State} {k : Key} (h : s.ck = some k) (f : Key → Result) :
    withKey s f = f k := by simp [withKey, h]

/-- A rule that uses the key and answers a next state had a key, and its rest answered that
state. -/
theorem withKey_next {s t : State} {f : Key → Result} (h : withKey s f = .next t) :
    ∃ k, s.ck = some k ∧ f k = .next t := by
  unfold withKey at h
  split at h
  · exact ⟨_, by assumption, h⟩
  · cases h

/-- Without a key such a rule faults and does nothing else (R92). -/
theorem withKey_none {s : State} (h : s.ck = none) (f : Key → Result) :
    withKey s f = .fault .cipherNotKeyed := by simp [withKey, h]

/-! ## Operands -/

theorem inOperand_iff (input : Bytes) (ofs len : Int) :
    inOperand input ofs len = true ↔ 0 ≤ ofs ∧ 0 ≤ len ∧ ofs + len ≤ input.length := by
  simp [inOperand, and_assoc]

theorem wholeBlocks_iff (len : Int) : wholeBlocks len = true ↔ 0 ≤ len ∧ len % 16 = 0 := by
  simp [wholeBlocks]

theorem withinCap_iff (cap : Option Nat) (n : Nat) :
    withinCap cap n = true ↔ ∀ c, cap = some c → n ≤ c := by
  cases cap <;> simp [withinCap]

@[simp] theorem withinCap_zero (cap : Option Nat) : withinCap cap 0 = true := by
  cases cap <;> simp [withinCap]

theorem withinCap_mono {cap : Option Nat} {m n : Nat} (h : withinCap cap n = true) (hm : m ≤ n) :
    withinCap cap m = true := by
  cases cap <;> simp_all [withinCap]; omega

/-- The bytes read from within an operand are as many as were asked for (R63). -/
theorem memRead_length {input : Bytes} {ofs len : Int} (h : inOperand input ofs len = true) :
    (memRead input ofs len).length = len.toNat := by
  rw [inOperand_iff] at h
  simp only [memRead, List.length_take, List.length_drop]
  omega

/-- Reading a whole operand gives the operand. -/
@[simp] theorem memRead_all (input : Bytes) : memRead input 0 input.length = input := by
  simp [memRead]

@[simp] theorem memWrite_nil (v : Bytes) : memWrite [] 0 v = v := by simp [memWrite]

/-- Writing right behind the bytes written so far appends (R64). -/
@[simp] theorem memWrite_end (out v : Bytes) : memWrite out out.length v = out ++ v := by
  simp [memWrite]

/-! ## Flags -/

theorem payloadLegal_iff (d : Bool) (s : State) :
    payloadLegal d s = true ↔ (s.phase = .init ∨ s.phase = .sealed) ∧ s.dec = d := by
  simp [payloadLegal]

theorem gcmReady_iff (s : State) : gcmReady s = true ↔ s.phase ≠ .uninit := by simp [gcmReady]

theorem gcmRestorable_iff (s : State) :
    gcmRestorable s = true ↔
      s.phase ≠ .uninit ∧ s.gmSv = true ∧ s.gcSv = true ∧ s.ghSv = true := by
  simp [gcmRestorable, gcmReady, and_assoc]

theorem ghashRestorable_iff (s : State) :
    ghashRestorable s = true ↔ s.ghInit = true ∧ s.ghSv = true := by simp [ghashRestorable]

theorem gctrRestorable_iff (s : State) :
    gctrRestorable s = true ↔ s.gcInit = true ∧ s.gcSv = true := by simp [gctrRestorable]

/-! ## Internal steps -/

/-- `process_block` reads `H` and the accumulator and writes the accumulator only (R102). -/
theorem processBlock_eq (x : Block) (s : State) :
    processBlock x s = s.setAcc (ghashStep s.h0 s.h1 (s.s0, s.s1) x) := rfl

/-- `absorb` writes the accumulator only, with the hash recurrence over its bytes (R153). -/
theorem absorb_eq (d : Bytes) (s : State) :
    absorb d s = s.setAcc (ghashFrom s.h0 s.h1 (s.s0, s.s1) d) := by
  unfold absorb ghashFrom
  generalize chunks d = cs
  induction cs generalizing s with
  | nil => rfl
  | cons c cs ih =>
    rw [List.foldl_cons, List.foldl_cons, ih, processBlock_eq]
    simp only [State.setAcc_h0, State.setAcc_h1, State.setAcc_s0, State.setAcc_s1,
      State.setAcc_setAcc]

@[simp] theorem absorb_nil (s : State) : absorb [] s = s := rfl

/-- Absorbing whole blocks and then more is absorbing the concatenation (R101, R107). -/
theorem absorb_append {a : Bytes} (h : 16 ∣ a.length) (b : Bytes) (s : State) :
    absorb (a ++ b) s = absorb b (absorb a s) := by
  simp only [absorb_eq, ghashFrom_append h, State.setAcc_h0, State.setAcc_h1, State.setAcc_s0,
    State.setAcc_s1, State.setAcc_setAcc]

/-- `keystream` writes the counter only (R154). -/
theorem keystreamAdvance_eq (e : Block → Block) (d : Bytes) (s : State) :
    keystreamAdvance e d s = s.setCtr (gctrFn e s.ctr d).2 := rfl

/-- `keystream_final` leaves the counter at `ICB` and writes nothing else (R154). -/
theorem keystreamFinal_eq (e : Block → Block) (d : Bytes) (s : State) :
    keystreamFinal e d s = s.setCtr s.icb := rfl

/-- The first payload command seals: it absorbs the padded associated data, records its length,
discards it and moves to `SEALED` (R142). -/
theorem sealAad_init {s : State} (h : s.phase = .init) :
    sealAad s = (s.setAcc (ghashFrom s.h0 s.h1 (s.s0, s.s1) (pad16 s.aad))).sealRegs := by
  simp [sealAad, h, absorb_eq]

/-- In any other phase sealing does nothing (R142). -/
theorem sealAad_other {s : State} (h : s.phase ≠ .init) : sealAad s = s := by
  simp [sealAad, h]

/-- `compute_tag` leaves the accumulator zero and writes nothing else (R143). -/
theorem afterTag_eq (s : State) : afterTag s = s.setAcc (0, 0) := by
  simp [afterTag, absorbLengths, absorb_eq]

/-- The tag is a function of the key, `J0`, `TAGLEN` and the hash with the length block absorbed
(R143). -/
theorem computeTag_eq (e : Block → Block) (s : State) :
    computeTag e s = tagFn e s.j0
      (blockOfWords (ghashFrom s.h0 s.h1 (s.s0, s.s1) (lenBlock s.aadlen s.proc)).1
        (ghashFrom s.h0 s.h1 (s.s0, s.s1) (lenBlock s.aadlen s.proc)).2) s.taglen := by
  simp [computeTag, absorbLengths, absorb_eq, State.accBlock]

end Sys2Proof.Machine
end

