-- ==== Sys2Proof/Laws/PerInstr.lean ====
section
/-! SUPPORT. The family `EncodedWord`, one lemma per command: the word the encoder writes selects the
row of the opcode map (`30_encoding.md` rule R84) that carries the command's own mnemonic. -/

namespace Sys2Proof.Laws

/-- The mnemonic of a command's row (R84). -/
def mnemonic : Instr → String
  | .ghashInit _ => "GHASH.INIT"
  | .ghashUpdate _ _ _ => "GHASH.UPDATE"
  | .ghashDigest => "GHASH.DIGEST"
  | .ghashReset => "GHASH.RESET"
  | .ghashSave => "GHASH.SAVE"
  | .ghashRestore => "GHASH.RESTORE"
  | .gctrInit _ => "GCTR.INIT"
  | .gctrUpdate _ _ _ => "GCTR.UPDATE"
  | .gctrDofinal _ _ _ => "GCTR.DOFINAL"
  | .gctrReset => "GCTR.RESET"
  | .gctrSave => "GCTR.SAVE"
  | .gctrRestore => "GCTR.RESTORE"
  | .gcmInit _ _ _ _ => "GCM.INIT"
  | .gcmUpdateAad _ _ _ => "GCM.UPDATE_AAD"
  | .gcmEncrypt _ _ _ => "GCM.ENCRYPT"
  | .gcmEncryptFinal _ _ _ => "GCM.ENCRYPT_FINAL"
  | .gcmDecrypt _ _ _ => "GCM.DECRYPT"
  | .gcmDecryptFinal _ _ _ => "GCM.DECRYPT_FINAL"
  | .gcmReset => "GCM.RESET"
  | .gcmSave => "GCM.SAVE"
  | .gcmRestore => "GCM.RESTORE"
  | .gcmGetTagLength => "GCM.GET_TAG_LENGTH"
  | .gcmGetBufferedLength => "GCM.GET_BUFFERED_LENGTH"

/-- The encoder's word for `i` selects the row of `i`'s mnemonic. -/
def EncodedWord.Statement (i : Instr) : Prop :=
  (selectRow (encode i).cw).map OpRow.mnemonic = some (mnemonic i)

namespace EncodedWord

/-- A row without free bits is selected by its one word, with `D` and `TL` zero. -/
theorem fixedWord (op : BitVec 8) (name : String)
    (h : (selectRow (commandWord op false 0)).map OpRow.mnemonic = some name) :
    (selectRow (encodeN op).cw).map OpRow.mnemonic = some name := h

theorem ghashInit (subkey : Bytes) : Statement (.ghashInit subkey) :=
  fixedWord 0x10 "GHASH.INIT" rfl
theorem ghashUpdate (data : Bytes) (ofs len : Int) : Statement (.ghashUpdate data ofs len) :=
  fixedWord 0x11 "GHASH.UPDATE" rfl
theorem ghashDigest : Statement .ghashDigest :=
  fixedWord 0x12 "GHASH.DIGEST" rfl
theorem ghashReset : Statement .ghashReset :=
  fixedWord 0x13 "GHASH.RESET" rfl
theorem ghashSave : Statement .ghashSave :=
  fixedWord 0x14 "GHASH.SAVE" rfl
theorem ghashRestore : Statement .ghashRestore :=
  fixedWord 0x15 "GHASH.RESTORE" rfl
theorem gctrInit (icb : Bytes) : Statement (.gctrInit icb) :=
  fixedWord 0x20 "GCTR.INIT" rfl
theorem gctrUpdate (input : Bytes) (len outCap : Int) : Statement (.gctrUpdate input len outCap) :=
  fixedWord 0x21 "GCTR.UPDATE" rfl
theorem gctrDofinal (input : Bytes) (len outCap : Int) :
    Statement (.gctrDofinal input len outCap) :=
  fixedWord 0x22 "GCTR.DOFINAL" rfl
theorem gctrReset : Statement .gctrReset :=
  fixedWord 0x23 "GCTR.RESET" rfl
theorem gctrSave : Statement .gctrSave :=
  fixedWord 0x24 "GCTR.SAVE" rfl
theorem gctrRestore : Statement .gctrRestore :=
  fixedWord 0x25 "GCTR.RESTORE" rfl

/-- The one row with free bits: whatever `D` and `TL` are, the word selects `GCM.INIT`. -/
theorem gcmInit (dec : Bool) (key iv : Option Bytes) (taglen : Nat) :
    Statement (.gcmInit dec key iv taglen) := by
  unfold Statement
  rw [show (encode (.gcmInit dec key iv taglen)).cw = commandWord 0x30 dec taglen from rfl,
    selectRow_init (commandWord_init_matches dec taglen)]
  rfl

theorem gcmUpdateAad (data : Bytes) (ofs len : Int) : Statement (.gcmUpdateAad data ofs len) :=
  fixedWord 0x31 "GCM.UPDATE_AAD" rfl
theorem gcmEncrypt (input : Bytes) (len outCap : Int) : Statement (.gcmEncrypt input len outCap) :=
  fixedWord 0x32 "GCM.ENCRYPT" rfl
theorem gcmEncryptFinal (input : Bytes) (len outCap : Int) :
    Statement (.gcmEncryptFinal input len outCap) :=
  fixedWord 0x33 "GCM.ENCRYPT_FINAL" rfl
theorem gcmDecrypt (input : Bytes) (len outCap : Int) : Statement (.gcmDecrypt input len outCap) :=
  fixedWord 0x34 "GCM.DECRYPT" rfl
theorem gcmDecryptFinal (input : Bytes) (len outCap : Int) :
    Statement (.gcmDecryptFinal input len outCap) :=
  fixedWord 0x35 "GCM.DECRYPT_FINAL" rfl
theorem gcmReset : Statement .gcmReset :=
  fixedWord 0x36 "GCM.RESET" rfl
theorem gcmSave : Statement .gcmSave :=
  fixedWord 0x37 "GCM.SAVE" rfl
theorem gcmRestore : Statement .gcmRestore :=
  fixedWord 0x38 "GCM.RESTORE" rfl
theorem gcmGetTagLength : Statement .gcmGetTagLength :=
  fixedWord 0x39 "GCM.GET_TAG_LENGTH" rfl
theorem gcmGetBufferedLength : Statement .gcmGetBufferedLength :=
  fixedWord 0x3A "GCM.GET_BUFFERED_LENGTH" rfl

end EncodedWord

end Sys2Proof.Laws
end

