-- ==== Sys2Proof/Laws/Step.lean ====
section
/-! SUPPORT. What one step can do, event by event, and the induction over the steps of a run. -/

namespace Sys2Proof.Machine

/-- With an empty port the step changes nothing (R190). -/
theorem step_nil {s : State} (h : s.port = []) : step s = .next s := by
  simp [step, runEvent, h]

/-- With a command at the port the step takes it and runs it (R80). -/
theorem step_command {s : State} {c : Command} {rest : List PortEvent}
    (h : s.port = .command c :: rest) : step s = runCommand c (s.takeEvent rest) := by
  simp [step, runEvent, h]

/-- With a hardware reset at the port the step resets and keeps the events behind it (R210). -/
theorem step_hardwareReset {s : State} {rest : List PortEvent}
    (h : s.port = .hardwareReset :: rest) :
    step s = .next (State.reset.takeEvent rest) := by
  simp [step, runEvent, h, hardwareReset]

/-- A command that answers a next state decoded to an instruction whose meaning answered that state,
or its word was illegal and the state is the one before with the error's response (R88). -/
theorem runCommand_next {c : Command} {s t : State} (h : runCommand c s = .next t) :
    (∃ i, decode c = .ok i ∧ exec i s = .next t) ∨
      (decode c = .error .illegalCommand ∧ t = s.respond ⟨.illegalCommand, 0, 0, []⟩) := by
  unfold runCommand at h
  split at h
  · exact .inl ⟨_, by assumption, h⟩
  · exact .inr ⟨by assumption, by simpa using h⟩
  · cases h
  · cases h

end Sys2Proof.Machine

namespace Sys2Proof.Laws

/-- A run of no steps stays where it is. -/
theorem run_zero (M : Host.Core) (s : M.State) : M.run 0 s = .next s := rfl

/-- A run that answers a next state answered one after its first step. -/
theorem run_succ_next {M : Host.Core} {n : Nat} {s t : M.State} (h : M.run (n + 1) s = .next t) :
    ∃ u, M.step s = .next u ∧ M.run n u = .next t := by
  rw [Host.Core.run] at h
  split at h
  · exact ⟨_, by assumption, h⟩
  · cases h
  · cases h

/-- What every step keeps, every run keeps. -/
theorem run_keeps {M : Host.Core} {P : M.State → Prop}
    (hstep : ∀ s t, P s → M.step s = .next t → P t) :
    ∀ (n : Nat) (s t : M.State), P s → M.run n s = .next t → P t := by
  intro n
  induction n with
  | zero => intro s t hs h; cases h; exact hs
  | succ n ih =>
    intro s t hs h
    obtain ⟨u, hu, hr⟩ := run_succ_next h
    exact ih u t (hstep s u hs hu) hr

end Sys2Proof.Laws
end

