-- ==== Sys2Proof/Tests/Slice0.lean ====
section
/-! SUPPORT. Tests: the well-formedness checks, the decoding of words written out from their encoding,
one step of each command against the values of `95_test_vectors.md`, and for each statement with
hypotheses a state and operands that meet them (`witness_...`). -/

namespace Sys2Proof.Tests

open Sys2Proof.Machine Sys2Proof.Safety

/-! ## Well-formedness: an ill-formed term for each check, and the bounds it admits -/

/-- A byte string of `n` zero bytes has the length the check looks at. -/
theorem bytesOk_replicate (n : Nat) : bytesOk (List.replicate n 0#8) = decide (n < 2 ^ 31) := by
  rw [bytesOk, List.length_replicate]

theorem test_wf_bytesOk_bound :
    bytesOk (List.replicate (2 ^ 31) 0#8) = false ∧
      bytesOk (List.replicate (2 ^ 31 - 1) 0#8) = true := by
  rw [bytesOk_replicate, bytesOk_replicate]
  decide

theorem test_wf_refuses_long_subkey :
    (Instr.ghashInit (List.replicate (2 ^ 31) 0#8)).wellFormed = false :=
  test_wf_bytesOk_bound.1

theorem test_wf_refuses_long_key_and_iv {b : Bytes} (h : bytesOk b = false) (taglen : Nat) :
    (Instr.gcmInit false (some b) none taglen).wellFormed = false ∧
      (Instr.gcmInit false none (some b) taglen).wellFormed = false := by
  simp [Instr.wellFormed, optBytesOk, h]

theorem test_wf_refuses_scalar_above_range :
    (Instr.gctrUpdate [] 2147483648 0).wellFormed = false := by decide

theorem test_wf_refuses_scalar_below_range :
    (Instr.gcmEncrypt [] 0 (-2147483649)).wellFormed = false := by decide

theorem test_wf_refuses_tag_field_256 :
    (Instr.gcmInit true none none 256).wellFormed = false := by decide

/-- Witness of `DecodeEncodeGivesTheCommandBack`: every operand at a bound of its slot. -/
theorem witness_wellFormed_at_the_bounds :
    (Instr.gcmInit true (some []) none 255).wellFormed = true ∧
      (Instr.ghashUpdate [] (-2147483648) 2147483647).wellFormed = true ∧
      (Instr.gcmDecryptFinal [] 2147483647 (-2147483648)).wellFormed = true := by decide

/-! ## Decoding: words written out field by field (R82, R84)

A word is reserved bits 31..24, `TL`, reserved bits 15..9, `D`, `OP`. Witnesses of
`DecodedCommandsAreWellFormed` and `DecodedWordIsItsEncoding`. -/

/-- The word with these fields, most significant first. -/
def word (hi tl : BitVec 8) (mid : BitVec 7) (d : BitVec 1) (op : BitVec 8) : BitVec 32 :=
  hi ++ tl ++ mid ++ d ++ op

/-- The record of a command with no operand at all. -/
def bare (cw : BitVec 32) : Command := ⟨cw, none, none, 0, 0, 0⟩

theorem test_decode_ghashInit :
    decode ⟨word 0x00 0x00 0b0000000 0b0 0b00010000, some [1], none, 0, 0, 0⟩ =
      .ok (.ghashInit [1]) := by rfl
theorem test_decode_ghashUpdate :
    decode ⟨word 0x00 0x00 0b0000000 0b0 0b00010001, some [1], none, 2, 0xFFFFFFFF, 5⟩ =
      .ok (.ghashUpdate [1] 2 (-1)) := by rfl
theorem test_decode_ghashDigest :
    decode (bare (word 0x00 0x00 0b0000000 0b0 0b00010010)) = .ok .ghashDigest := by rfl
theorem test_decode_ghashReset :
    decode (bare (word 0x00 0x00 0b0000000 0b0 0b00010011)) = .ok .ghashReset := by rfl
theorem test_decode_ghashSave :
    decode (bare (word 0x00 0x00 0b0000000 0b0 0b00010100)) = .ok .ghashSave := by rfl
theorem test_decode_ghashRestore :
    decode (bare (word 0x00 0x00 0b0000000 0b0 0b00010101)) = .ok .ghashRestore := by rfl
theorem test_decode_gctrInit :
    decode ⟨word 0x00 0x00 0b0000000 0b0 0b00100000, some [1, 2], none, 0, 0, 0⟩ =
      .ok (.gctrInit [1, 2]) := by rfl
theorem test_decode_gctrUpdate :
    decode ⟨word 0x00 0x00 0b0000000 0b0 0b00100001, some [1], none, 9, 3, 4⟩ =
      .ok (.gctrUpdate [1] 3 4) := by rfl
theorem test_decode_gctrDofinal :
    decode ⟨word 0x00 0x00 0b0000000 0b0 0b00100010, some [1], none, 9, 0x80000000, 4⟩ =
      .ok (.gctrDofinal [1] (-2147483648) 4) := by rfl
theorem test_decode_gctrReset :
    decode (bare (word 0x00 0x00 0b0000000 0b0 0b00100011)) = .ok .gctrReset := by rfl
theorem test_decode_gctrSave :
    decode (bare (word 0x00 0x00 0b0000000 0b0 0b00100100)) = .ok .gctrSave := by rfl
theorem test_decode_gctrRestore :
    decode (bare (word 0x00 0x00 0b0000000 0b0 0b00100101)) = .ok .gctrRestore := by rfl
theorem test_decode_gcmInit :
    decode ⟨word 0x00 0b00001100 0b0000000 0b1 0b00110000, some [7], some [], 0, 0, 0⟩ =
      .ok (.gcmInit true (some [7]) (some []) 12) := by rfl
theorem test_decode_gcmUpdateAad :
    decode ⟨word 0x00 0x00 0b0000000 0b0 0b00110001, some [1], none, 0, 1, 9⟩ =
      .ok (.gcmUpdateAad [1] 0 1) := by rfl
theorem test_decode_gcmEncrypt :
    decode ⟨word 0x00 0x00 0b0000000 0b0 0b00110010, some [1], none, 9, 3, 4⟩ =
      .ok (.gcmEncrypt [1] 3 4) := by rfl
theorem test_decode_gcmEncryptFinal :
    decode ⟨word 0x00 0x00 0b0000000 0b0 0b00110011, some [1], none, 9, 3, 4⟩ =
      .ok (.gcmEncryptFinal [1] 3 4) := by rfl
theorem test_decode_gcmDecrypt :
    decode ⟨word 0x00 0x00 0b0000000 0b0 0b00110100, some [1], none, 9, 3, 4⟩ =
      .ok (.gcmDecrypt [1] 3 4) := by rfl
theorem test_decode_gcmDecryptFinal :
    decode ⟨word 0x00 0x00 0b0000000 0b0 0b00110101, some [1], none, 9, 3, 4⟩ =
      .ok (.gcmDecryptFinal [1] 3 4) := by rfl
theorem test_decode_gcmReset :
    decode (bare (word 0x00 0x00 0b0000000 0b0 0b00110110)) = .ok .gcmReset := by rfl
theorem test_decode_gcmSave :
    decode (bare (word 0x00 0x00 0b0000000 0b0 0b00110111)) = .ok .gcmSave := by rfl
theorem test_decode_gcmRestore :
    decode (bare (word 0x00 0x00 0b0000000 0b0 0b00111000)) = .ok .gcmRestore := by rfl
theorem test_decode_gcmGetTagLength :
    decode (bare (word 0x00 0x00 0b0000000 0b0 0b00111001)) = .ok .gcmGetTagLength := by rfl
theorem test_decode_gcmGetBufferedLength :
    decode (bare (word 0x00 0x00 0b0000000 0b0 0b00111010)) = .ok .gcmGetBufferedLength := by rfl

/-- The illegal words of `95_test_vectors.md` section 4.5 select no row. -/
theorem test_illegal_words :
    ([0x3B, 0x16, 0x00, 0xFF, 0x40, 0x110, 0x100032, 0x230, 0x8030, 0x1000030, 0x80000012].map
      fun cw => (selectRow cw).isNone) = List.replicate 11 true := by rfl

/-- `legalWord` at the edges of the `OP` ranges, the reserved bits, `D` and `TL` (R88): the
hypothesis of the second clause of `IllegalWordsAreExactlyTheUnmatchedOnes`. -/
theorem witness_illegal_words_at_the_edges :
    (([0x0F, 0x16, 0x1F, 0x26, 0x2F, 0x3B, 0xFF, 0x110, 0x10010, 0x210, 0x8030, 0x1000030] :
      List (BitVec 32)).map legalWord) = List.replicate 12 false ∧
    (([0x10, 0x15, 0x20, 0x25, 0x30, 0x3A, 0xFF0130] : List (BitVec 32)).map legalWord) =
      List.replicate 7 true := by decide

/-- An operand that format `B` needs and the record lacks (R86); an illegal word is found first. -/
theorem test_missing_operand :
    decode (bare 0x10) = .error .missingOperand ∧
      decode (bare 0x16) = .error .illegalCommand := ⟨rfl, rfl⟩

/-- Witness of `UnusedSlotsAreIgnored`: two records that differ in every slot the format leaves. -/
theorem witness_unused_slots :
    decode ⟨0x10, some [1], some [9], 8, 7, 6⟩ = .ok (.ghashInit [1]) ∧
      agreeOnUsedSlots (.ghashInit [1]) ⟨0x10, some [1], some [9], 8, 7, 6⟩
        ⟨0x10, some [1], none, 0, 0, 0⟩ := ⟨rfl, rfl, rfl⟩

/-- The opcode table's words, its operands zero (log 10). -/
theorem test_decodeTableWord :
    decodeTableWord 32 0x00000010 = some (.ghashInit []) ∧
      decodeTableWord 32 0x00FF0130 = some (.gcmInit true (some []) none 255) ∧
      decodeTableWord 32 0x00000035 = some (.gcmDecryptFinal [] 0 0) ∧
      decodeTableWord 32 0x0000003B = none := ⟨rfl, rfl, rfl, rfl⟩

/-! ## Helpers for one step -/

/-- The response of a next state. -/
def response : Result → Option Response
  | .next t => t.response
  | _ => none

/-- A register of a next state. -/
def reg {α : Type} (f : State → α) : Result → Option α
  | .next t => some (f t)
  | _ => none

/-- The refusal of an outcome. -/
def refusal : Result → Option Refusal
  | .refused r => some r
  | _ => none

/-- The bytes of a number written with two hexadecimal digits a byte. -/
def hex (n v : Nat) : Bytes := beBytes n v

/-- The toy collaborator (`95_test_vectors.md` section 2). -/
def toyE (key : Key) (b : Block) : Block :=
  blockOfBytes ((bytesOfBlock b).zipIdx.map fun x =>
    x.1 ^^^ key.getD (x.2 % key.length) 0 ^^^ BitVec.ofNat 8 x.2)

/-- The parameters of the toy collaborator: every nonempty key, no capacity. -/
def toy : Params := ⟨toyE, fun k => decide (1 ≤ k.length), none, none⟩

/-- The values of AES under the zero key that `95_test_vectors.md` sections 3 and 5 print, and the
toy capacities 8 and 8. -/
def aesTable : Params :=
  ⟨fun _ b =>
    if b = 0 then 0x66e94bd4ef8a2c3b884cfa59ca342b2e
    else if b = 1 then 0x58e2fccefa7e3061367f1d57a4e7455a
    else 0x0388dace60b6a392f328c2b971b2fe78,
   fun k => decide (k.length = 16), some 8, some 8⟩

/-- A GHASH unit with the subkey of program 1. -/
def ghashUnit : State :=
  { State.reset with ghInit := true, h0 := 0x66e94bd4ef8a2c3b, h1 := 0x884cfa59ca342b2e }

/-- A GCTR unit at the counter of program 5, with the toy key. -/
def gctrUnit : State :=
  { State.reset with
    ck := some [0xa5]
    gcInit := true
    icb := 0x00112233445566778899aabbfffffffe
    ctr := 0x00112233445566778899aabbfffffffe }

/-- The state after line 3 of program 2: an encryption with the toy key and `TAGLEN = 12`. -/
def toyOperation : State :=
  { State.reset with
    ck := some [0xa5]
    ghInit := true
    h0 := 0xa5a4a7a6a1a0a3a2
    h1 := 0xadacafaea9a8abaa
    gcInit := true
    icb := 0x000102030405060708090a0b00000002
    ctr := 0x000102030405060708090a0b00000002
    phase := .init
    taglen := 12
    j0 := 0x000102030405060708090a0b00000001 }

/-! ## Pure functions (`95_test_vectors.md` section 4.1) -/

theorem test_inc32_wraps :
    inc32 0x000102030405060708090a0bffffffff = 0x000102030405060708090a0b00000000 ∧
      inc32 0x0000ffff = 0x00010000 := by decide

theorem test_blockMult_and_ghash :
    blockMult 0x4000000000000000 0 0 1 = (0xe100000000000000, 0) ∧
      blockMult 0 1 0x4000000000000000 0 = (0xe100000000000000, 0) ∧
      blockMult 0 1 0 1 = (0xe608000000000000, 3) ∧
      blockMult 0x66e94bd4ef8a2c3b 0x884cfa59ca342b2e 0x66e94bd4ef8a2c3b 0x884cfa59ca342b2e =
        (0xa569901bb4b18906, 0xf5059d24465c904d) ∧
      ghashFn 0x66e94bd4ef8a2c3b884cfa59ca342b2e
          (hex 16 0x0388dace60b6a392f328c2b971b2fe78 ++ hex 16 0x80) =
        0xf38cbb1ad69223dcc3457ae5b6b0f885 ∧
      j0Fn (toyE [0xa5] 0) (hex 8 0x0102030405060708) = 0x8234c8f7cfbc994e4d8bac0249ce88bf ∧
      tagFn (toyE [0xa5]) 0x000102030405060708090a0b00000001 0x74cec02dd460c44b6b3f7fe01665db2a 12 =
        hex 12 0xd16b658871c561eece9ada45 := by decide +kernel

theorem test_lenBlock :
    lenBlock 7 21 = hex 16 0x000000000000003800000000000000a8 ∧
      lenBlock maxLen maxLen = hex 16 0x00000000fffffff800000000fffffff8 ∧
      ivLenBlock 8 = hex 16 0x40 := by decide

/-- Witnesses of the length hypotheses of `LenBlockIsTheTwo64BitLengths`, `J0OfTwelveBytesAndOfNone`
(an IV of 12 bytes, and one of 16) and `TagEqualIsEquality`, at their bounds; and `tag_equal` on tags that differ in the last bit. -/
theorem witness_lengths :
    (0 ≤ maxLen ∧ maxLen ≤ maxLen) ∧ (hex 12 0).length = 12 ∧ (hex 16 0).length ≠ 12 ∧
      (hex 12 0xd16b658871c561eece9ada45).length = (hex 12 0xd16b658871c561eece9ada44).length ∧
      tagEqual (hex 12 0xd16b658871c561eece9ada45) (hex 12 0xd16b658871c561eece9ada44) = false := by
  decide

/-! ## The step -/

/-- The first step of a program: a command from the host, taken and answered (program 1 line 6). -/
theorem test_step_takes_the_command :
    reg State.port (step { ghashUnit with port := [.command (bare 0x12), .hardwareReset] }) =
        some [.hardwareReset] ∧
      response (step { ghashUnit with port := [.command (bare 0x12)] }) =
        some ⟨.ok, 0, 16, hex 16 0⟩ := by decide

/-- An illegal command (R88), and a command of the opcode table right after reset. -/
theorem test_step_illegal_and_table_word :
    response (step { State.reset with port := [.command (bare 0x16)] }) =
        some ⟨.illegalCommand, 0, 0, []⟩ ∧
      response (step (State.reset.withFetchWord 32 0x30)) = some ⟨.invalidKey, 0, 0, []⟩ ∧
      response (step (State.reset.withFetchWord 32 0x39)) = some ⟨.ok, 0, 16, []⟩ := by decide

/-- Hardware reset gives no response and forgets everything (R210). -/
theorem test_step_hardwareReset :
    step { toyOperation with port := [.hardwareReset, .command (bare 0x12)] } =
      .next { State.reset with port := [.command (bare 0x12)] } := rfl

/-- Witness of `StepRunsTheDecodedCommand` and of the clause on illegal commands. -/
theorem witness_step_premises :
    decode (bare 0x12) = .ok .ghashDigest ∧ legalWord (bare 0x16).cw = false ∧
      { ghashUnit with port := [.command (bare 0x12)] }.port = .command (bare 0x12) :: [] :=
  ⟨rfl, by decide, rfl⟩

/-- Witness of `IdleStepChangesNothing` and `HardwareResetSetsTheStatedValues`. -/
theorem witness_step_ports :
    toyOperation.port = [] ∧
      { toyOperation with port := [.hardwareReset] }.port = .hardwareReset :: [] := ⟨rfl, rfl⟩

/-- Witness of `OnlyInitsAndAccessorsSucceedAfterReset`: commands it speaks of, and a state with the
stated reset values whose other registers hold something else than `State.reset` has there. -/
theorem witness_not_after_reset :
    succeedsAfterReset .ghashDigest = false ∧ succeedsAfterReset (.gctrInit []) = false ∧
      succeedsAfterReset (.gcmDecryptFinal [] 0 0) = false ∧
      succeedsAfterReset .gcmRestore = false ∧
      StatedResetValues { State.reset with s0 := 1, ctrs := 2, sPhase := .sealed } :=
  ⟨rfl, rfl, rfl, rfl, by constructor <;> rfl⟩

/-! ## GHASH commands (section 4.2, program 1) -/

theorem test_ghashInit_loads :
    reg (fun t => (t.h0, t.h1, t.ghInit))
        (exec (.ghashInit (hex 16 0x66e94bd4ef8a2c3b884cfa59ca342b2e)) .reset) =
      some (0x66e94bd4ef8a2c3b, 0x884cfa59ca342b2e, true) := by decide

theorem test_ghashInit_invalid_subkey :
    response (exec (.ghashInit (hex 15 0)) ghashUnit) = some ⟨.invalidSubkey, 0, 0, []⟩ := by decide

theorem test_ghashUpdate_absorbs :
    reg (fun t => (t.s0, t.s1))
        (exec (.ghashUpdate (hex 16 0x0388dace60b6a392f328c2b971b2fe78) 0 16) ghashUnit) =
      some (0x5e2ec74691706288, 0x2c85b0685353deb7) := by decide +kernel

theorem test_ghashUpdate_order_of_checks :
    response (exec (.ghashUpdate (hex 32 0) 0 17) ghashUnit) =
        some ⟨.unsupportedLength, 0, 0, []⟩ ∧
      response (exec (.ghashUpdate (hex 32 0) 33 (-16)) ghashUnit) =
        some ⟨.unsupportedLength, 0, 0, []⟩ ∧
      response (exec (.ghashUpdate (hex 32 0) 32 0) ghashUnit) = some ⟨.ok, 0, 0, []⟩ ∧
      refusal (exec (.ghashUpdate (hex 32 0) 17 16) ghashUnit) = some .operandBounds := by decide

theorem test_ghashDigest :
    response (exec .ghashDigest
        { ghashUnit with s0 := 0xf38cbb1ad69223dc, s1 := 0xc3457ae5b6b0f885 }) =
      some ⟨.ok, 0, 16, hex 16 0xf38cbb1ad69223dcc3457ae5b6b0f885⟩ := by decide

/-- Also the witness of the second clause of `GhashDigestIsDestructive`. -/
theorem test_ghashDigest_zeroes :
    exec .ghashDigest { ghashUnit with s0 := 1, s1 := 2 } =
      .next { ghashUnit with response := some ⟨.ok, 0, 16, hex 16 0x10000000000000002⟩ } := rfl

theorem test_ghashReset :
    reg (fun t => (t.s0, t.s1, t.h0, t.ghSv))
        (exec .ghashReset { ghashUnit with s0 := 1, s1 := 2, ghSv := true }) =
      some (0, 0, 0x66e94bd4ef8a2c3b, true) := by decide

theorem test_ghashSave :
    reg (fun t => (t.ss0, t.ss1, t.ghSv)) (exec .ghashSave { ghashUnit with s0 := 1, s1 := 2 }) =
      some (1, 2, true) := by decide

theorem test_ghashRestore :
    reg (fun t => (t.s0, t.s1, t.ghSv))
        (exec .ghashRestore { ghashUnit with ss0 := 1, ss1 := 2, ghSv := true }) =
      some (1, 2, true) := by decide

theorem test_ghashRestore_without_snapshot :
    response (exec .ghashRestore ghashUnit) = some ⟨.illegalState, 0, 0, []⟩ := by decide

/-! ## GCTR commands (section 4.3, program 5) -/

theorem test_gctrInit_needs_a_key :
    response (exec (.gctrInit (hex 15 0)) .reset) = some ⟨.illegalState, 0, 0, []⟩ ∧
      response (exec (.gctrInit (hex 15 0)) gctrUnit) = some ⟨.invalidParameter, 0, 0, []⟩ := by
  decide

theorem test_gctrInit_seeds :
    reg (fun t => (t.icb, t.ctr, t.gcInit, t.gcSv))
        (exec (.gctrInit (hex 16 0x0f)) { State.reset with ck := some [], gcSv := true }) =
      some (0x0f, 0x0f, true, false) := by decide

theorem test_gctrUpdate_across_the_wrap :
    response (gctrUpdateWith toy ((List.range 32).map fun i => BitVec.ofNat 8 (0x30 + i)) 32 32
        gctrUnit) =
      some ⟨.ok, 0, 32,
        hex 32 0x9584b7a6d1c0f3e21d0c3f2e6a6a6a6be5f4c7d6a1b083926d7c4f5e1a1a1a1a⟩ ∧
    reg State.ctr (gctrUpdateWith toy (hex 32 0) 32 32 gctrUnit) =
      some 0x00112233445566778899aabb00000000 := by decide +kernel

theorem test_gctrUpdate_size_errors :
    response (exec (.gctrUpdate (hex 40 0) 17 40) gctrUnit) =
        some ⟨.internalSizeError, 0, 0, []⟩ ∧
      response (exec (.gctrUpdate (hex 40 0) 48 48) gctrUnit) =
        some ⟨.internalSizeError, 0, 0, []⟩ ∧
      response (exec (.gctrUpdate (hex 40 0) 16 15) gctrUnit) =
        some ⟨.internalSizeError, 0, 0, []⟩ := by decide

theorem test_gctrDofinal_partial_block :
    response (gctrDofinalWith toy (hex 8 0x5051525354555657) 8 8
        { gctrUnit with ctr := 0x00112233445566778899aabb00000000 }) =
      some ⟨.ok, 0, 8, hex 8 0xf5e4d7c6b1a09382⟩ := by decide +kernel

theorem test_gctrDofinal_errors_reset_the_counter :
    exec (.gctrDofinal [] (-1) 8) { gctrUnit with ctr := 0, gcSv := true } =
        .next { gctrUnit with gcSv := true, response := some ⟨.illegalBlockSize, 0, 0, []⟩ } ∧
      exec (.gctrDofinal [1] 1 0) { gctrUnit with ctr := 0 } =
        .next { gctrUnit with response := some ⟨.internalSizeError, 0, 0, []⟩ } := ⟨rfl, rfl⟩

theorem test_gctrReset :
    reg (fun t => (t.ctr, t.gcSv)) (exec .gctrReset { gctrUnit with ctr := 0, gcSv := true }) =
      some (0x00112233445566778899aabbfffffffe, false) := by decide

theorem test_gctrSave :
    reg (fun t => (t.ctrs, t.gcSv)) (exec .gctrSave gctrUnit) =
      some (0x00112233445566778899aabbfffffffe, true) := by decide

theorem test_gctrRestore :
    reg (fun t => (t.ctr, t.gcSv)) (exec .gctrRestore { gctrUnit with ctrs := 7, gcSv := true }) =
      some (7, true) := by decide

theorem test_gctrRestore_without_snapshot :
    response (exec .gctrRestore gctrUnit) = some ⟨.illegalState, 0, 0, []⟩ := by decide

/-! ## Orchestrator commands (section 4.4, programs 2 to 4) -/

/-- Program 4 line 1: every register `GCM.INIT` writes (R140). -/
theorem test_gcmInit :
    reg (fun t => (t.h0, t.h1, t.j0, t.icb, t.ctr, t.phase))
        (gcmInitWith aesTable false (some (hex 16 0)) (some (hex 12 0)) 16 toyOperation) =
      some (0x66e94bd4ef8a2c3b, 0x884cfa59ca342b2e, 1, 2, 2, .init) := by decide

theorem test_gcmInit_order_of_checks :
    response (gcmInitWith toy false none (some []) 0 .reset) = some ⟨.invalidKey, 0, 0, []⟩ ∧
      response (gcmInitWith toy false (some []) (some []) 16 .reset) =
        some ⟨.invalidKey, 0, 0, []⟩ ∧
      refusal (gcmInitWith toy false (some [1]) (some []) 0 .reset) = some .tagLength ∧
      refusal (gcmInitWith toy false (some [1]) (some []) 17 .reset) = some .tagLength := by decide

theorem test_gcmUpdateAad_appends :
    reg State.aad (gcmUpdateAadWith toy (hex 4 0xff657221) 1 3
        { toyOperation with aad := hex 4 0x68656164 }) =
      some (hex 7 0x68656164657221) := by decide

theorem test_gcmUpdateAad_refused_beyond_the_capacity :
    refusal (gcmUpdateAadWith aesTable (hex 9 0) 0 9 toyOperation) = some .bufferCapacity ∧
      response (gcmUpdateAadWith aesTable (hex 9 0) 0 8 toyOperation) = some ⟨.ok, 0, 0, []⟩ ∧
      response (exec (.gcmUpdateAad [] 0 0) { toyOperation with phase := .sealed }) =
        some ⟨.illegalState, 0, 0, []⟩ := by decide

/-- Program 2 line 6. -/
theorem test_gcmEncrypt :
    response (gcmEncryptWith toy (hex 16 0x4142434445464748494a4b4c4d4e4f50) 16 16
        { toyOperation with aad := hex 7 0x68656164657221 }) =
      some ⟨.ok, 0, 16, hex 16 0xe4e7e6e1e0e3e2edecefeee9e4e6e4f8⟩ ∧
    reg (fun t => (t.s0, t.s1, t.aadlen, t.proc, t.phase))
        (gcmEncryptWith toy (hex 16 0x4142434445464748494a4b4c4d4e4f50) 16 16
          { toyOperation with aad := hex 7 0x68656164657221 }) =
      some (0x80a89dd2ea990017, 0x153878400f52c515, 7, 16, .sealed) := by decide +kernel

theorem test_gcmEncrypt_order_of_checks :
    response (exec (.gcmEncrypt (hex 5 0) 21 32) toyOperation) =
        some ⟨.internalError, 0, 0, []⟩ ∧
      refusal (exec (.gcmEncrypt (hex 16 0) 16 15) toyOperation) = some .operandBounds ∧
      refusal (exec (.gcmEncrypt (hex 16 0) (-16) 16) toyOperation) = some .operandBounds := by
  decide

/-- Program 2 line 10. -/
theorem test_gcmEncryptFinal :
    response (gcmEncryptFinalWith toy (hex 5 0x5152535455) 5 17
        { toyOperation with
          phase := .sealed, aadlen := 7, proc := 16
          ctr := 0x000102030405060708090a0b00000003
          s0 := 0x80a89dd2ea990017, s1 := 0x153878400f52c515 }) =
      some ⟨.ok, 0, 17, hex 17 0xf4f7f6f1f0d16b658871c561eece9ada45⟩ := by decide +kernel

theorem test_gcmEncryptFinal_order_of_checks :
    response (exec (.gcmEncryptFinal (hex 5 0) 5 16) toyOperation) =
        some ⟨.shortBuffer, 0, 0, []⟩ ∧
      refusal (exec (.gcmEncryptFinal (hex 5 0) 6 0) toyOperation) = some .operandBounds := by
  decide

theorem test_gcmDecrypt_buffers :
    reg (fun t => (t.ibuf, t.phase, t.proc))
        (gcmDecryptWith toy (hex 2 0xe4e7) 2 0 { toyOperation with dec := true, ibuf := [9] }) =
      some ([9, 0xe4, 0xe7], .sealed, 0) := by decide

theorem test_gcmDecrypt_wrong_direction :
    response (exec (.gcmDecrypt [0] 1 0) toyOperation) = some ⟨.illegalState, 0, 0, []⟩ := by decide

/-- Program 3 lines 6 and 10, from the save point of line 5: the tag mismatch withholds the
plaintext, the right tag releases it. -/
theorem test_gcmDecryptFinal :
    (fun s : State =>
      (response (gcmDecryptFinalWith toy
          (hex 23 0xefe9e4e6e4f8f4f7f6f1f0d16b658871c561eece9ada45) 23 21 s),
        response (gcmDecryptFinalWith toy
          (hex 23 0xeee9e4e6e4f8f4f7f6f1f0d16b658871c561eece9ada45) 23 21 s)))
      { toyOperation with
        dec := true, phase := .sealed, aadlen := 7, ibuf := hex 10 0xe4e7e6e1e0e3e2edecef
        s0 := 0x6186748d384570b6, s1 := 0x892e732ff88ea7fd } =
    (some ⟨.aeadBadTag, 2, 0, []⟩,
      some ⟨.ok, 0, 21, hex 21 0x4142434445464748494a4b4c4d4e4f505152535455⟩) := by decide +kernel

theorem test_gcmDecryptFinal_order_of_checks :
    response (gcmDecryptFinalWith toy (hex 11 0) 11 0 { toyOperation with dec := true }) =
        some ⟨.aeadBadTag, 1, 0, []⟩ ∧
      response (gcmDecryptFinalWith toy (hex 13 0) 13 0 { toyOperation with dec := true }) =
        some ⟨.shortBuffer, 0, 0, []⟩ := by decide

theorem test_gcmReset :
    reg (fun t => (t.phase, t.ctr, t.ibuf, t.aadlen, t.proc))
        (exec .gcmReset { toyOperation with
          phase := .final, ctr := 0, dec := true, ibuf := [1], aadlen := 7, proc := 21 }) =
      some (.init, 0x000102030405060708090a0b00000002, [], 0, 0) := by decide

/-- Program 3 line 11: the GCTR snapshot is cleared, the two others are kept. -/
theorem test_gcmReset_snapshots :
    reg (fun t => (t.gcSv, t.ghSv, t.gmSv))
        (exec .gcmReset { toyOperation with gcSv := true, ghSv := true, gmSv := true }) =
      some (false, true, true) := by decide

theorem test_gcmSave :
    reg (fun t => (t.sPhase, t.sIbuf, t.sAadlen, t.ctrs, t.ss0))
        (exec .gcmSave { toyOperation with phase := .sealed, ibuf := [1], aadlen := 7, s0 := 5 }) =
      some (.sealed, [1], 7, 0x000102030405060708090a0b00000002, 5) := by decide

theorem test_gcmSave_sets_three_bits :
    reg (fun t => (t.gmSv, t.gcSv, t.ghSv)) (exec .gcmSave toyOperation) =
      some (true, true, true) := by decide

theorem test_gcmRestore :
    reg (fun t => (t.phase, t.ibuf, t.aadlen, t.ctr, t.s0))
        (exec .gcmRestore { toyOperation with
          gmSv := true, gcSv := true, ghSv := true
          sPhase := .sealed, sIbuf := [1], sAadlen := 7, ctrs := 3, ss0 := 5 }) =
      some (.sealed, [1], 7, 3, 5) := by decide

theorem test_gcmRestore_needs_three_bits :
    response (exec .gcmRestore { toyOperation with gmSv := true, gcSv := false, ghSv := true }) =
      some ⟨.illegalState, 0, 0, []⟩ := by decide

theorem test_gcmGetTagLength :
    response (exec .gcmGetTagLength .reset) = some ⟨.ok, 0, 16, []⟩ := by decide

theorem test_gcmGetBufferedLength :
    response (exec .gcmGetBufferedLength { toyOperation with dec := true, ibuf := [1, 2] }) =
        some ⟨.ok, 0, 2, []⟩ ∧
      response (exec .gcmGetBufferedLength { toyOperation with ibuf := [1, 2] }) =
        some ⟨.ok, 0, 0, []⟩ := by decide

/-! ## Witnesses: states and operands that meet the hypotheses of the statements -/

/-- An operation with key `k`, IV `iv` and tag length `t` that has just been started on this machine's
collaborator. -/
def operation (dec : Bool) (k iv : Bytes) (t : Nat) : State :=
  { State.reset with
    ck := some k
    ghInit := true
    h0 := word0 (Config.encrypt k 0)
    h1 := word1 (Config.encrypt k 0)
    gcInit := true
    icb := inc32 (j0Fn (Config.encrypt k 0) iv)
    ctr := inc32 (j0Fn (Config.encrypt k 0) iv)
    phase := .init
    dec := dec
    taglen := t
    j0 := j0Fn (Config.encrypt k 0) iv }

/-- Witness of the statements about whole operations: `OperationReady` and `JustStarted`. -/
theorem witness_operationReady (dec : Bool) (k iv : Bytes) (t : Nat) :
    OperationReady dec k iv t (operation dec k iv t) := by
  constructor <;> first | rfl | (constructor <;> rfl)

theorem witness_justStarted : JustStarted (operation false [1] [] 16) :=
  (witness_operationReady false [1] [] 16).started

/-- Witness of `GhashHashesTheConcatenation`: two pieces, one of them empty, at the end of its
operand; and a subkey of 16 bytes. -/
theorem witness_ghash_pieces :
    (∀ u ∈ [((hex 32 1, 16, 16) : Bytes × Int × Int), ([], 0, 0)],
      0 ≤ u.2.1 ∧ 0 ≤ u.2.2 ∧ u.2.2 % 16 = 0 ∧ u.2.1 + u.2.2 ≤ u.1.length) ∧
      ghashUnit.ghInit = true ∧ (hex 16 0).length = 16 := by decide

/-- Witness of `GhashRestoreBringsTheAccumulatorBack`: a digest between the two. -/
theorem witness_ghash_save_restore :
    ghashUnit.ghInit = true ∧ writesSavedAcc .ghashDigest = false ∧
      (runInstrs [.ghashSave, .ghashDigest, .ghashRestore] ghashUnit).isSome = true := by decide

/-- Witness of the statements with a keyed collaborator (`GctrUpdateXorsTheKeystream` and the payload
commands), and of `GctrEncryptsTheConcatenation`. -/
theorem witness_keyed :
    gctrUnit.ck = some [0xa5] ∧ toyOperation.ck = some [0xa5] ∧ (hex 16 7).length = 16 ∧
      (∀ d ∈ [hex 16 1, []], 16 ∣ d.length) := by decide

/-- Witness of `GctrRestoreBringsTheCounterBack`: a final that fails between the two. -/
theorem witness_gctr_save_restore :
    gctrUnit.gcInit = true ∧ writesSavedCtr (.gctrDofinal [] (-1) 0) = false ∧
      (runInstrs [.gctrSave, .gctrDofinal [] (-1) 0, .gctrRestore] gctrUnit).isSome = true := by
  decide

/-- Witness of `GcmInitLeavesTheOperationReady`: both ends of the tag lengths, the longest IV. -/
theorem witness_gcmInit_ranges :
    1 ≤ 1 ∧ 1 ≤ 16 ∧ 16 ≤ 16 ∧ (List.replicate maxLen 0#8).length ≤ maxLen :=
  ⟨by decide, by decide, by decide, by rw [List.length_replicate]⟩

/-- Witness of `OpenParameterCommandsComplete`: an accepted key, and buffers filled to their
capacity. -/
theorem witness_open_parameters :
    toy.keyOk [0xa5] = true ∧
      (toyOperation.phase = .init ∧ 1 + 8 ≤ (hex 9 0).length ∧
        toyOperation.aad.length + 8 ≤ maxLen ∧
        withinCap aesTable.aadCap (toyOperation.aad.length + 8) = true) ∧
      withinCap aesTable.ibufCap (0 + 8) = true ∧ withinCap aesTable.ibufCap (0 + 9) = false := by
  decide

/-- Witness of the decryption clauses of `OpenParameterCommandsComplete`, in both phases: a buffer filled
to its capacity, a tag that takes all of it, and no room for output. -/
theorem witness_open_decryption : ∀ phase ∈ [Phase.init, Phase.sealed],
    let s := { toyOperation with phase := phase, dec := true, taglen := 8 }
    s.ck = some [0xa5] ∧ (s.phase = .init ∨ s.phase = .sealed) ∧ s.dec = true ∧
      8 ≤ (hex 8 5).length ∧ s.ibuf.length + 8 ≤ maxLen ∧
      withinCap aesTable.ibufCap (s.ibuf.length + 8) = true ∧ s.taglen ≤ s.ibuf.length + 8 ∧
      (s.ibuf.length : Int) + (8 : Nat) - s.taglen ≤ 0 := by decide

/-- On this machine, whatever its capacities: `GCM.UPDATE_AAD` and `GCM.DECRYPT` of no bytes. -/
theorem witness_no_bytes_complete :
    exec (.gcmUpdateAad [] 0 0) toyOperation =
        .next { toyOperation with response := some ⟨.ok, 0, 0, []⟩ } ∧
      withinCap Config.ibufCap 0 = true := by
  refine ⟨?_, withinCap_zero _⟩
  have h : withinCap Config.params.aadCap 0 = true := withinCap_zero _
  show gcmUpdateAadWith Config.params [] 0 0 toyOperation = _
  unfold gcmUpdateAadWith
  rw [if_neg (by decide), if_neg (by decide), if_neg (by decide),
    show toyOperation.aad.length + (0 : Int).toNat = 0 from rfl, h]
  rfl

/-- Witness of the clause of `IllegalStateIsExactlyItsTable` for a phase, and of the other error
statements: `GCM.SAVE` in `UNINIT`. -/
theorem witness_illegalState :
    illegalStateCause .gcmSave State.reset ∧
      exec .gcmSave State.reset =
        .next { State.reset with response := some ⟨.illegalState, 0, 0, []⟩ } := ⟨rfl, rfl⟩

/-- Witness of `RefusalsAreExactlyTheirTable`: refused one past the operand, not at its end. -/
theorem witness_refusal :
    refusal (exec (.ghashUpdate (hex 16 0) 1 16) ghashUnit) = some .operandBounds ∧
      refusal (exec (.ghashUpdate (hex 16 0) 16 0) ghashUnit) = none := by decide

/-- Witness of the second case of `ErrorsChangeNothingButTwo`: the counter is reset. -/
theorem witness_error_resets_the_counter :
    exec (.gctrDofinal [] (-1) 0) { gctrUnit with ctr := 0 } =
      .next { gctrUnit with response := some ⟨.illegalBlockSize, 0, 0, []⟩ } := rfl

/-- Witness of `NoPlaintextBeforeVerification`, both clauses, on this machine whatever its
capacities: no bytes to buffer, and a received tag of no bytes (`TAGLEN` 0, below the reachable
range) is verified. -/
theorem witness_verification :
    ((operation true [1] [] 0).taglen ≤ 16) ∧
      (response (exec (.gcmDecrypt [] 0 0) (operation true [1] [] 0))).map Response.status =
        some .ok ∧
      (response (exec (.gcmDecryptFinal [] 0 0) (operation true [1] [] 0))).map Response.status =
        some .ok := by
  have h : withinCap Config.params.ibufCap 0 = true := withinCap_zero _
  have h0 : (operation true [1] [] 0).ibuf.length + (0 : Int).toNat = 0 := rfl
  refine ⟨by decide, ?_, ?_⟩
  · show (response (gcmDecryptWith Config.params [] 0 0 (operation true [1] [] 0))).map _ = _
    unfold gcmDecryptWith
    rw [if_neg (by decide), if_neg (by decide), if_neg (by decide), h0, h]
    rfl
  · show (response (gcmDecryptFinalWith Config.params [] 0 0 (operation true [1] [] 0))).map _ = _
    unfold gcmDecryptFinalWith
    rw [if_neg (by decide), if_neg (by decide), if_neg (by decide), h0, h,
      if_neg (by decide), if_neg (by decide), if_neg (by decide)]
    rfl

/-- Witness of `OutputFitsItsCapacity`: a capacity of no bytes, and a negative one. -/
theorem witness_output_capacity :
    gctrUnit.taglen ≤ 16 ∧
      response (exec (.gctrUpdate [] 0 0) gctrUnit) = some ⟨.ok, 0, 0, []⟩ ∧
      response (exec (.gctrUpdate [] 0 (-1)) gctrUnit) = some ⟨.internalSizeError, 0, 0, []⟩ := by
  decide

/-- Witness of `PhaseMovesOnlyByItsTable`, `OnlyInitsWriteTheKeyRegisters`,
`LeafCommandsKeepToTheirUnit` and `ErrorResponsesCarryNothingElse`: a next state with its response,
of a success and of an error. -/
theorem witness_next_states :
    (exec .gcmReset { toyOperation with phase := .final } =
        .next { toyOperation with response := some ⟨.ok, 0, 0, []⟩ }) ∧
      exec .ghashRestore toyOperation =
        .next { toyOperation with response := some ⟨.illegalState, 0, 0, []⟩ } := ⟨rfl, rfl⟩

/-- Witness of `StepKeepsTheInvariant` and `InvariantStatesNeverFault`: a started operation meets the
invariant, whatever its direction. -/
theorem witness_inv (dec : Bool) : Inv (operation dec [1] [] 16) := by
  refine ⟨⟨?_, ?_, ?_, ?_, ?_, ?_, ?_, ?_, ?_, ?_⟩, ⟨?_, ?_, ?_, ?_, ?_, ?_⟩⟩ <;>
    simp [operation, State.reset]

/-- The step those two statements speak of. -/
theorem witness_inv_step :
    step (operation true [1] [] 16) = .next (operation true [1] [] 16) := rfl

/-- Witness of `ReachableStatesMeetR43`: a command and a hardware reset from reset, and a third step
on an empty port. -/
theorem witness_run :
    core.run 3 { State.reset with port := [.command (bare 0x39), .hardwareReset] } =
      .next State.reset := rfl

/-- Witness of `EncryptionComputesTheAead` and `DecryptionComputesTheAead`: pieces of associated data
and payload, one of them empty; and the first branch of each is not empty whatever the
capacities. -/
theorem witness_aead :
    (∀ p ∈ [hex 16 1, []], 16 ∣ p.length) ∧ [hex 3 1, []].flatten.length ≤ maxLen ∧
      ([hex 16 1, []].flatten ++ hex 5 1).length ≤ maxLen ∧
      16 ≤ ([hex 16 1, []].flatten ++ hex 5 1).length ∧
      withinCap Config.aadCap ([[]] : List Bytes).flatten.length = true :=
  ⟨by decide, by decide, by decide, by decide, withinCap_zero _⟩

/-- Witness of `DecryptionUndoesEncryption`: the longest tag, no associated data. -/
theorem witness_round_trip :
    OperationReady false [1] [] 16 (operation false [1] [] 16) ∧
      OperationReady true [1] [] 16 (operation true [1] [] 16) ∧
      (hex 5 1).length + 16 ≤ maxLen ∧ withinCap Config.aadCap ([] : Bytes).length = true :=
  ⟨witness_operationReady .., witness_operationReady .., by decide, withinCap_zero _⟩

/-- Witness of `ResetReplaysTheOperation`: a command that feeds the operation, and its run. -/
theorem witness_replay :
    feedsOperation (.gcmEncrypt [] 0 0) = true ∧
      ((runInstrs [.gcmEncrypt [] 0 0] (operation false [1] [] 16)).map fun x => x.2) =
        some [⟨.ok, 0, 0, []⟩] := ⟨rfl, rfl⟩

/-- Witness of `RestoreRollsBackToTheSavePoint`: a save, a payload command, the restore. -/
theorem witness_rollback :
    (operation false [1] [] 16).phase ≠ .uninit ∧ keepsSnapshot (.gcmEncrypt [] 0 0) = true ∧
      ∃ saved, exec .gcmSave (operation false [1] [] 16) = .next saved ∧
        (runInstrs ([.gcmEncrypt [] 0 0] ++ [.gcmRestore]) saved).isSome = true :=
  ⟨by decide, rfl, _, rfl, rfl⟩

end Sys2Proof.Tests
end

