-- ==== Sys2Proof/Proofs/Scope.lean ====
section
/-! PROOFS. The pure functions of `00_scope.md` section 5: the counter block as 12 kept bytes and a
32-bit counter, the padding, the product by the zero block, and the tag comparison. -/

namespace Sys2Proof.Machine

/-! ## The two fields of a counter block (R8, R10) -/

/-- A block is spelled by its first 12 bytes and its 4-byte counter field. -/
theorem bytesOfBlock_eq_firstTwelve_counter (b : Block) :
    bytesOfBlock b = beBytes 12 (b.toNat / 2 ^ 32) ++ beBytes 4 b.toNat :=
  beBytes_append 12 4 b.toNat

theorem take_twelve_bytesOfBlock (b : Block) :
    (bytesOfBlock b).take 12 = beBytes 12 (b.toNat / 2 ^ 32) := by
  rw [bytesOfBlock_eq_firstTwelve_counter, List.take_left' (beBytes_length 12 _)]

theorem beNat_drop_twelve_bytesOfBlock (b : Block) :
    beNat ((bytesOfBlock b).drop 12) = b.toNat % 2 ^ 32 := by
  rw [bytesOfBlock_eq_firstTwelve_counter, List.drop_left' (beBytes_length 12 _)]
  exact beNat_beBytes 4 b.toNat

/-- `inc32` as arithmetic on the block's value: the first 12 bytes kept, the counter field plus 1
modulo `2^32` (R10). -/
theorem inc32_toNat (b : Block) :
    (inc32 b).toNat = b.toNat / 2 ^ 32 * 2 ^ 32 + (b.toNat + 1) % 2 ^ 32 := by
  have hb : b.toNat < 2 ^ 128 := b.isLt
  rw [inc32, BitVec.toNat_append, Nat.shiftLeft_eq, Nat.mul_comm, ← Nat.two_pow_add_eq_or_of_lt
    (BitVec.isLt _), BitVec.toNat_add, BitVec.extractLsb'_toNat, BitVec.extractLsb'_toNat,
    Nat.shiftRight_eq_div_pow, Nat.shiftRight_zero, BitVec.toNat_ofNat]
  omega

theorem inc32_firstTwelve (b : Block) : (inc32 b).toNat / 2 ^ 32 = b.toNat / 2 ^ 32 := by
  have h := inc32_toNat b
  omega

theorem inc32_counter (b : Block) : (inc32 b).toNat % 2 ^ 32 = (b.toNat + 1) % 2 ^ 32 := by
  have h := inc32_toNat b
  omega

/-! ## Padding (R11) -/

theorem pad16_length (b : Bytes) : (pad16 b).length = (b.length + 15) / 16 * 16 := by
  rw [pad16, List.length_append, List.length_replicate]
  omega

/-! ## The zero block in GHASH (R12, R13) -/

/-- No bit of the zero block is set, so no step of the loop adds to the accumulator. -/
theorem multLoop_zero_left (n : Nat) (z0 z1 v0 v1 : Word) :
    multLoop 0#64 0#64 n z0 z1 v0 v1 = (z0, z1) := by
  induction n generalizing v0 v1 with
  | zero => rfl
  | succ n ih => simp [multLoop, ih]

theorem blockMult_zero_left (h0 h1 : Word) : blockMult 0#64 0#64 h0 h1 = (0#64, 0#64) := by
  unfold blockMult
  exact multLoop_zero_left 128 0#64 0#64 h0 h1

theorem ghashStep_zero (h0 h1 : Word) : ghashStep h0 h1 (0#64, 0#64) 0#128 = (0#64, 0#64) :=
  blockMult_zero_left h0 h1

theorem ghashFn_zero_block (h : Block) : ghashFn h (List.replicate 16 0#8) = 0#128 := by
  have one_chunk : ghashFrom (word0 h) (word1 h) (0#64, 0#64) (List.replicate 16 0#8) =
      ghashStep (word0 h) (word1 h) (0#64, 0#64) 0#128 := rfl
  rw [ghashFn, one_chunk, ghashStep_zero]
  rfl

/-! ## The pre-counter block (R17) -/

theorem j0Fn_of_length_eq {iv : Bytes} (hl : iv.length = 12) (h : Block) :
    j0Fn h iv = blockOfBytes (iv ++ be32Bytes 1) :=
  if_pos hl

theorem j0Fn_of_length_ne {iv : Bytes} (hl : iv.length ≠ 12) (h : Block) :
    j0Fn h iv = ghashFn h (pad16 iv ++ ivLenBlock iv.length) :=
  if_neg hl

/-- The empty IV is hashed as its length block alone, which is the zero block. -/
theorem j0Fn_nil (h : Block) : j0Fn h [] = 0#128 := by
  have zero_block : pad16 [] ++ ivLenBlock ([] : Bytes).length = List.replicate 16 0#8 := by decide
  rw [j0Fn_of_length_ne (by decide), zero_block, ghashFn_zero_block]

/-! ## The tag comparison (R19) -/

theorem foldl_or_eq_zero_iff (l : Bytes) (d : Byte) :
    l.foldl (fun d x => d ||| x) d = 0#8 ↔ d = 0#8 ∧ ∀ x ∈ l, x = 0#8 := by
  induction l generalizing d with
  | nil => simp
  | cons x l ih => rw [List.foldl_cons, ih, BitVec.or_eq_zero_iff, List.forall_mem_cons, and_assoc]

theorem xorBytes_all_zero_iff {a b : Bytes} (h : a.length = b.length) :
    (∀ x ∈ xorBytes a b, x = 0#8) ↔ a = b := by
  induction a generalizing b with
  | nil => simp [xorBytes, List.length_eq_zero_iff.mp h.symm]
  | cons x a ih =>
    cases b with
    | nil => simp at h
    | cons y b =>
      rw [xorBytes, List.zipWith_cons_cons, List.forall_mem_cons, BitVec.xor_eq_zero_iff,
        List.cons.injEq]
      exact and_congr_right fun _ => ih (Nat.succ.inj h)

theorem tagEqual_iff_xorBytes (a b : Bytes) :
    tagEqual a b = true ↔ ∀ x ∈ xorBytes a b, x = 0#8 := by
  rw [tagEqual, beq_iff_eq, foldl_or_eq_zero_iff, and_iff_right rfl, xorBytes]

end Sys2Proof.Machine

namespace Sys2Proof.Safety

open Sys2Proof.Machine

/-- Settles O11: the first 12 bytes and the counter field are read off the value of `inc32`. -/
theorem inc32TouchesOnlyTheLastFourBytes : Obligations.Inc32TouchesOnlyTheLastFourBytes := by
  intro b
  constructor
  · rw [take_twelve_bytesOfBlock, take_twelve_bytesOfBlock, inc32_firstTwelve]
  · rw [beNat_drop_twelve_bytesOfBlock, beNat_drop_twelve_bytesOfBlock, inc32_counter,
      Nat.mod_add_mod]

/-- Settles O13: the length is a multiple of 16, and the count of zeros is a remainder modulo 16. -/
theorem pad16ReachesTheNextMultipleOf16 : Obligations.Pad16ReachesTheNextMultipleOf16 := by
  intro b
  have hlen : 16 ∣ (pad16 b).length := by
    rw [pad16_length]
    exact Nat.dvd_mul_left _ _
  exact ⟨hlen, (16 - b.length % 16) % 16, Nat.mod_lt _ (by decide), rfl⟩

/-- Settles O18: by the length of the IV; the empty one leaves a single zero block, whose product
with the subkey is zero. -/
theorem j0OfTwelveBytesAndOfNone : Obligations.J0OfTwelveBytesAndOfNone := by
  refine ⟨fun h iv hl => ?_, fun h iv hl => j0Fn_of_length_ne hl h, j0Fn_nil⟩
  have hlen : (iv ++ be32Bytes 1).length = 16 := by
    rw [List.length_append, hl, be32Bytes, beBytes_length]
  rw [j0Fn_of_length_eq hl, bytesOfBlock_blockOfBytes hlen]
  rfl

/-- Settles O19: an `or` is zero when all the differences are, and a difference of two bytes is zero
when they are equal. -/
theorem tagEqualIsEquality : Obligations.TagEqualIsEquality := fun a b h =>
  (tagEqual_iff_xorBytes a b).trans (xorBytes_all_zero_iff h)

end Sys2Proof.Safety
end

/-! PROOFS. The state of `10_state.md`: the moves of `PHASE` (R22) and the values after hardware reset
(R44). The internal steps are first said by what they do to `PHASE`; then every way a rule can answer
is shown to obey the table, so that a command's proof follows its checks in the order of its
rule. -/

namespace Sys2Proof.Machine

/-! ## `PHASE` after the internal steps (`42_gcm.md` section 1) -/

@[simp] theorem absorb_phase (d : Bytes) (s : State) : (absorb d s).phase = s.phase := by
  rw [absorb_eq, State.setAcc_phase]

@[simp] theorem keystreamAdvance_phase (e : Block → Block) (d : Bytes) (s : State) :
    (keystreamAdvance e d s).phase = s.phase := rfl

@[simp] theorem afterEncrypt_phase (e : Block → Block) (d : Bytes) (s : State) :
    (afterEncrypt e d s).phase = (sealAad s).phase := by
  rw [afterEncrypt, State.addProc_phase, absorb_phase, keystreamAdvance_phase]

/-- A legal payload command finds `PHASE` in `INIT` or `SEALED` (R155). -/
theorem phase_of_payloadLegal {d : Bool} {s : State} (h : payloadLegal d s = true) :
    s.phase = .init ∨ s.phase = .sealed :=
  ((payloadLegal_iff d s).mp h).1

/-- After `seal_aad` of a legal payload command the operation is sealed, whether or not this was the
first such command (R142). -/
theorem sealAad_phase {s : State} (h : s.phase = .init ∨ s.phase = .sealed) :
    (sealAad s).phase = .sealed := by
  rcases h with hinit | hsealed
  · rw [sealAad_init hinit, State.sealRegs_phase]
  · rw [sealAad_other (by simp [hsealed]), hsealed]

end Sys2Proof.Machine

namespace Sys2Proof.Safety

open Sys2Proof.Machine

/-! ## `PHASE` and the table of R22 -/

/-- With this status and `info` a command takes effect on `PHASE`: `OK`, or the tag mismatch of
`GCM.DECRYPT_FINAL` (R22). -/
abbrev takesEffect (st : Status) (info : BitVec 8) : Prop :=
  st = .ok ∨ (st = .aeadBadTag ∧ info = 2)

/-- The outcome `o` of the command `i` in `s` moves `PHASE` as the table of R22 says. -/
def FollowsPhaseTable (i : Instr) (s : State) (o : Result) : Prop :=
  ∀ (t : State) (r : Response), o = .next t → t.response = some r →
    if takesEffect r.status r.info then phaseMove i s.phase s.sPhase = some t.phase
    else t.phase = s.phase

namespace FollowsPhaseTable

variable {i : Instr} {s u : State} {o : Result}

/-- A refused command has no next state (R186). -/
theorem of_refuse (q : Refusal) : FollowsPhaseTable i s (refuse q) := by
  rintro t r ⟨⟩

/-- An `OK` answer obeys the table when `PHASE` moved along a row of it. -/
theorem of_finish {n : Int} {out : Bytes} (h : phaseMove i s.phase s.sPhase = some u.phase) :
    FollowsPhaseTable i s (finish n out u) := by
  rintro t r ⟨⟩ ⟨⟩
  rwa [if_pos (.inl rfl)]

/-- An error other than the tag mismatch obeys the table when `PHASE` stayed. -/
theorem of_raise {st : Status} {info : BitVec 8} (hst : ¬ takesEffect st info)
    (h : u.phase = s.phase) : FollowsPhaseTable i s (raise st info u) := by
  rintro t r ⟨⟩ ⟨⟩
  rwa [if_neg hst]

/-- The tag mismatch obeys the table when `PHASE` moved along a row of it. -/
theorem of_raise_tagMismatch (h : phaseMove i s.phase s.sPhase = some u.phase) :
    FollowsPhaseTable i s (raise .aeadBadTag infoTagMismatch u) := by
  rintro t r ⟨⟩ ⟨⟩
  rwa [if_pos (.inr ⟨rfl, rfl⟩)]

/-- A rule that uses the key obeys the table when it does with every key (R92). -/
theorem of_withKey {f : Key → Result} (h : ∀ k, FollowsPhaseTable i s (f k)) :
    FollowsPhaseTable i s (withKey s f) := by
  intro t r ht
  obtain ⟨k, -, hk⟩ := withKey_next ht
  exact h k t r hk

/-- A check that raises an error and leaves `PHASE`: what remains to be shown is the rest of the
rule. -/
theorem of_check {c : Prop} [Decidable c] {st : Status} {info : BitVec 8}
    (hst : ¬ takesEffect st info) (h : u.phase = s.phase) (ho : ¬ c → FollowsPhaseTable i s o) :
    FollowsPhaseTable i s (if c then raise st info u else o) := by
  split
  · exact of_raise hst h
  · next hc => exact ho hc

/-- A check that refuses the command: what remains to be shown is the rest of the rule. -/
theorem of_checkRefuse {c : Prop} [Decidable c] {q : Refusal} (ho : FollowsPhaseTable i s o) :
    FollowsPhaseTable i s (if c then refuse q else o) := by
  split
  · exact of_refuse q
  · exact ho

/-- A rule that is illegal in some states and otherwise succeeds, as most are. -/
theorem of_legal {c : Prop} [Decidable c] {n : Int} {out : Bytes}
    (h : ¬ c → phaseMove i s.phase s.sPhase = some u.phase) :
    FollowsPhaseTable i s (if c then raise .illegalState 0 s else finish n out u) :=
  of_check (by decide) rfl fun hc => of_finish (h hc)

end FollowsPhaseTable

open FollowsPhaseTable

/-! ## The commands with operands to check, in the order of their checks (D12) -/

theorem ghashUpdate_followsPhaseTable (data : Bytes) (ofs len : Int) (s : State) :
    FollowsPhaseTable (.ghashUpdate data ofs len) s (execGhashUpdate data ofs len s) :=
  of_check (by decide) rfl fun _ => of_check (by decide) rfl fun _ => of_checkRefuse <|
    of_finish (congrArg some (absorb_phase _ s).symm)

theorem gctrInit_followsPhaseTable (icb : Bytes) (s : State) :
    FollowsPhaseTable (.gctrInit icb) s (execGctrInit icb s) :=
  of_check (by decide) rfl fun _ => of_check (by decide) rfl fun _ => of_finish rfl

theorem gctrUpdate_followsPhaseTable (input : Bytes) (len outCap : Int) (s : State) :
    FollowsPhaseTable (.gctrUpdate input len outCap) s (execGctrUpdate input len outCap s) :=
  of_check (by decide) rfl fun _ => of_check (by decide) rfl fun _ => of_withKey fun _ =>
    of_finish rfl

theorem gctrDofinal_followsPhaseTable (input : Bytes) (len outCap : Int) (s : State) :
    FollowsPhaseTable (.gctrDofinal input len outCap) s (execGctrDofinal input len outCap s) :=
  of_check (by decide) rfl fun _ => of_check (by decide) rfl fun _ =>
    of_check (by decide) rfl fun _ => of_withKey fun _ => of_finish rfl

/-- `GCM.INIT` starts an operation in `INIT` from any phase, if key and IV are present (R140). -/
theorem gcmInit_followsPhaseTable (dec : Bool) (key iv : Option Bytes) (taglen : Nat) (s : State) :
    FollowsPhaseTable (.gcmInit dec key iv taglen) s (execGcmInit dec key iv taglen s) := by
  cases key with
  | none => exact of_raise (by decide) rfl
  | some k =>
    cases iv with
    | none => exact of_raise (by decide) rfl
    | some v =>
      exact of_check (by decide) rfl fun _ => of_checkRefuse <| of_checkRefuse <| of_finish rfl

/-- `GCM.UPDATE_AAD` is legal in `INIT` only and stays there (R141). -/
theorem gcmUpdateAad_followsPhaseTable (data : Bytes) (ofs len : Int) (s : State) :
    FollowsPhaseTable (.gcmUpdateAad data ofs len) s (execGcmUpdateAad data ofs len s) := by
  refine of_check (by decide) rfl fun hlegal => ?_
  have hinit : s.phase = .init := not_not.mp hlegal
  refine of_checkRefuse <| of_checkRefuse <| of_checkRefuse <| of_finish ?_
  rw [State.appendAad_phase, hinit]
  rfl

/-- `GCM.ENCRYPT` leaves the operation sealed (R142, R144). -/
theorem gcmEncrypt_followsPhaseTable (input : Bytes) (len outCap : Int) (s : State) :
    FollowsPhaseTable (.gcmEncrypt input len outCap) s (execGcmEncrypt input len outCap s) := by
  refine of_check (by decide) rfl fun hlegal => ?_
  have hopen := phase_of_payloadLegal (Bool.of_not_eq_false hlegal)
  refine of_check (by decide) rfl fun _ => of_checkRefuse <| of_checkRefuse <|
    of_withKey fun _ => of_finish ?_
  rw [afterEncrypt_phase, sealAad_phase hopen]
  exact if_pos hopen

/-- `GCM.ENCRYPT_FINAL` ends the operation in `FINAL` (R145). -/
theorem gcmEncryptFinal_followsPhaseTable (input : Bytes) (len outCap : Int) (s : State) :
    FollowsPhaseTable (.gcmEncryptFinal input len outCap) s
      (execGcmEncryptFinal input len outCap s) := by
  refine of_check (by decide) rfl fun hlegal => ?_
  have hopen := phase_of_payloadLegal (Bool.of_not_eq_false hlegal)
  exact of_checkRefuse <| of_checkRefuse <| of_check (by decide) rfl fun _ =>
    of_withKey fun _ => of_finish (if_pos hopen)

/-- `GCM.DECRYPT` leaves the operation sealed (R142, R146). -/
theorem gcmDecrypt_followsPhaseTable (input : Bytes) (len outCap : Int) (s : State) :
    FollowsPhaseTable (.gcmDecrypt input len outCap) s (execGcmDecrypt input len outCap s) := by
  refine of_check (by decide) rfl fun hlegal => ?_
  have hopen := phase_of_payloadLegal (Bool.of_not_eq_false hlegal)
  refine of_checkRefuse <| of_checkRefuse <| of_checkRefuse <| of_finish ?_
  rw [State.appendIbuf_phase, sealAad_phase hopen]
  exact if_pos hopen

/-- `GCM.DECRYPT_FINAL` ends the operation in `FINAL`, whether the tags are equal or not; the error
that asks for the rest of the tag leaves `PHASE` (R147). -/
theorem gcmDecryptFinal_followsPhaseTable (input : Bytes) (len outCap : Int) (s : State) :
    FollowsPhaseTable (.gcmDecryptFinal input len outCap) s
      (execGcmDecryptFinal input len outCap s) := by
  refine of_check (by decide) rfl fun hlegal => ?_
  have hopen := phase_of_payloadLegal (Bool.of_not_eq_false hlegal)
  refine of_checkRefuse <| of_checkRefuse <| of_checkRefuse <| of_check (by decide) rfl fun _ =>
    of_check (by decide) rfl fun _ => of_withKey fun _ => ?_
  dsimp only
  split
  · exact of_raise_tagMismatch (if_pos hopen)
  · exact of_finish (if_pos hopen)

/-! ## `GCM.RESET` and `GCM.RESTORE`, the rows whose phase depends on the state -/

/-- `GCM.RESET` returns an initialised operation to `INIT` (R148). -/
theorem gcmReset_followsPhaseTable (s : State) :
    FollowsPhaseTable .gcmReset s (execGcmReset s) :=
  of_legal fun hlegal => if_neg ((gcmReady_iff s).mp (Bool.of_not_eq_false hlegal))

/-- `GCM.RESTORE` returns to the saved phase (R150). -/
theorem gcmRestore_followsPhaseTable (s : State) :
    FollowsPhaseTable .gcmRestore s (execGcmRestore s) :=
  of_legal fun hlegal => if_neg ((gcmRestorable_iff s).mp (Bool.of_not_eq_false hlegal)).1

/-- Every command moves `PHASE` as its row of R22 says; the ones without a row leave it. -/
theorem exec_followsPhaseTable (i : Instr) (s : State) : FollowsPhaseTable i s (exec i s) := by
  cases i with
  | ghashInit subkey => exact of_check (by decide) rfl fun _ => of_finish rfl
  | ghashUpdate data ofs len => exact ghashUpdate_followsPhaseTable data ofs len s
  | ghashDigest => exact of_legal fun _ => rfl
  | ghashReset => exact of_legal fun _ => rfl
  | ghashSave => exact of_legal fun _ => rfl
  | ghashRestore => exact of_legal fun _ => rfl
  | gctrInit icb => exact gctrInit_followsPhaseTable icb s
  | gctrUpdate input len outCap => exact gctrUpdate_followsPhaseTable input len outCap s
  | gctrDofinal input len outCap => exact gctrDofinal_followsPhaseTable input len outCap s
  | gctrReset => exact of_legal fun _ => rfl
  | gctrSave => exact of_legal fun _ => rfl
  | gctrRestore => exact of_legal fun _ => rfl
  | gcmInit dec key iv taglen => exact gcmInit_followsPhaseTable dec key iv taglen s
  | gcmUpdateAad data ofs len => exact gcmUpdateAad_followsPhaseTable data ofs len s
  | gcmEncrypt input len outCap => exact gcmEncrypt_followsPhaseTable input len outCap s
  | gcmEncryptFinal input len outCap => exact gcmEncryptFinal_followsPhaseTable input len outCap s
  | gcmDecrypt input len outCap => exact gcmDecrypt_followsPhaseTable input len outCap s
  | gcmDecryptFinal input len outCap => exact gcmDecryptFinal_followsPhaseTable input len outCap s
  | gcmReset => exact gcmReset_followsPhaseTable s
  | gcmSave => exact of_legal fun _ => rfl
  | gcmRestore => exact gcmRestore_followsPhaseTable s
  | gcmGetTagLength => exact of_finish rfl
  | gcmGetBufferedLength => exact of_finish rfl

/-- Settles O48: command by command, along the checks of each rule; after reset by definition. -/
theorem phaseMovesOnlyByItsTable : Obligations.PhaseMovesOnlyByItsTable :=
  ⟨exec_followsPhaseTable, rfl⟩

/-! ## Hardware reset (R44, R210) -/

/-- The state after reset has the values of R44, whatever events are still to come. -/
theorem statedResetValues_reset (rest : List PortEvent) :
    StatedResetValues (State.reset.takeEvent rest) := by
  constructor <;> rfl

/-- Settles O9: the step on a reset event does not look at the state it leaves. -/
theorem hardwareResetSetsTheStatedValues : Obligations.HardwareResetSetsTheStatedValues :=
  fun _ rest h => ⟨_, step_hardwareReset h, rfl, statedResetValues_reset rest⟩

end Sys2Proof.Safety

/-! PROOFS. The opcode map of `30_encoding.md` (R84): no word selects two of its rows, and the words
that select one are those the fields of R82 make legal. A row with a full mask is selected by its
pattern only, and the row of `GCM.INIT` leaves exactly `D` and `TL` free. -/

namespace Sys2Proof

/-! ## The fields of a command word (R82) -/

/-- A command word is its five fields: `OP`, `D`, the reserved bits 15 to 9, `TL` and the reserved
bits 31 to 24. -/
theorem word_eq_iff_fields (x y : BitVec 32) :
    x = y ↔ x.extractLsb' 0 8 = y.extractLsb' 0 8 ∧ x.extractLsb' 8 1 = y.extractLsb' 8 1 ∧
      x.extractLsb' 9 7 = y.extractLsb' 9 7 ∧ x.extractLsb' 16 8 = y.extractLsb' 16 8 ∧
      x.extractLsb' 24 8 = y.extractLsb' 24 8 := by
  constructor
  · rintro rfl
    exact ⟨rfl, rfl, rfl, rfl, rfl⟩
  · rintro ⟨hop, hd, hlow, htl, hhigh⟩
    simp only [← BitVec.toNat_inj, BitVec.extractLsb'_toNat, Nat.shiftRight_eq_div_pow] at *
    omega

/-- The mask of `GCM.INIT` looks at `OP` and at the reserved bits, and at nothing else (R84). -/
theorem and_initMask_eq_iff (cw : BitVec 32) :
    cw &&& 0xFF00FEFF#32 = 0x30#32 ↔
      cw.extractLsb' 0 8 = 0x30#8 ∧ cw.extractLsb' 9 7 = 0#7 ∧ cw.extractLsb' 24 8 = 0#8 := by
  rw [word_eq_iff_fields]
  simp only [BitVec.extractLsb'_and]
  change _ &&& BitVec.allOnes 8 = 0x30#8 ∧ _ &&& 0#1 = 0#1 ∧ _ &&& BitVec.allOnes 7 = 0#7 ∧
    _ &&& 0#8 = 0#8 ∧ _ &&& BitVec.allOnes 8 = 0#8 ↔ _
  simp only [BitVec.and_allOnes, BitVec.and_zero, true_and]

/-- A word whose other fields are zero is its `OP`. -/
theorem word_eq_op {cw : BitVec 32} (hd : cw.extractLsb' 8 1 = 0#1)
    (hlow : cw.extractLsb' 9 7 = 0#7) (htl : cw.extractLsb' 16 8 = 0#8)
    (hhigh : cw.extractLsb' 24 8 = 0#8) : cw = (cw.extractLsb' 0 8).setWidth 32 := by
  simp only [← BitVec.toNat_inj, BitVec.extractLsb'_toNat, BitVec.toNat_setWidth,
    BitVec.toNat_ofNat, Nat.shiftRight_eq_div_pow] at *
  omega

/-! ## No word selects two rows (R84, R88) -/

/-- A word that two rows select carries both patterns where their masks meet. -/
theorem OpRow.patterns_agree {r r' : OpRow} {cw : BitVec 32} (h : r.selects cw = true)
    (h' : r'.selects cw = true) : r.pattern &&& r'.mask = r'.pattern &&& r.mask := by
  simp only [OpRow.selects, beq_iff_eq] at h h'
  rw [← h, ← h', BitVec.and_assoc, BitVec.and_assoc, BitVec.and_comm r.mask]

/-- Any two rows of the map differ in a bit that both masks look at. -/
theorem opcodeMap_patterns_differ :
    opcodeMap.Pairwise fun r r' => r.pattern &&& r'.mask ≠ r'.pattern &&& r.mask := by decide

/-- No word selects two rows of the map. -/
theorem opcodeMap_exclusive (cw : BitVec 32) :
    opcodeMap.Pairwise fun r r' => r.selects cw = true → r'.selects cw = false :=
  opcodeMap_patterns_differ.imp fun hne h =>
    Bool.eq_false_iff.mpr fun h' => hne (OpRow.patterns_agree h h')

/-- Of pairwise exclusive entries at most one passes the filter. -/
theorem length_filter_of_exclusive {α : Type} {p : α → Bool} {l : List α}
    (h : l.Pairwise fun a b => p a = true → p b = false) :
    (l.filter p).length = if l.any p then 1 else 0 := by
  induction h with
  | nil => rfl
  | @cons a l hhead _ ih =>
    cases ha : p a with
    | false => simpa [ha] using ih
    | true =>
      have hnone : l.filter p = [] := List.filter_eq_nil_iff.mpr fun b hb => by
        simp [hhead b hb ha]
      simp [ha, hnone]

/-- A word that selects no row is no command, whatever the operand slots hold (R88, R185). -/
theorem decode_of_no_row {c : Command} (h : opcodeMap.any (fun r => r.selects c.cw) = false) :
    decode c = .error .illegalCommand := by
  have hnone : selectRow c.cw = none := by
    simpa only [selectRow, List.find?_eq_none, List.any_eq_false] using h
  simp [decode, hnone]

end Sys2Proof

namespace Sys2Proof.Safety

open Sys2Proof.Machine

/-! ## The legal words (R82, R84, R88) -/

/-- Every row but that of `GCM.INIT` has a full mask and a legal pattern. -/
theorem opcodeMap_full_or_init : ∀ r ∈ opcodeMap,
    (r.mask = BitVec.allOnes 32 ∧ legalWord r.pattern = true) ∨
      (r.mask = 0xFF00FEFF#32 ∧ r.pattern = 0x30#32) := by decide

/-- Every `OP` of the table, with its other fields zero, selects a row: the 256 values of `OP`. -/
theorem op_selects_row {op : BitVec 8} (h : legalWord (op.setWidth 32) = true) :
    opcodeMap.any (fun r => r.selects (op.setWidth 32)) = true := by
  revert op
  decide

/-- `D` and `TL` are free in the words of `GCM.INIT`. -/
theorem legalWord_of_init {cw : BitVec 32} (h : cw &&& 0xFF00FEFF#32 = 0x30#32) :
    legalWord cw = true := by
  obtain ⟨hop, hlow, hhigh⟩ := (and_initMask_eq_iff cw).mp h
  simp [legalWord, hop, hlow, hhigh]

/-- A legal word is one of `GCM.INIT`, or an `OP` alone. -/
theorem init_or_op_of_legalWord {cw : BitVec 32} (h : legalWord cw = true) :
    cw &&& 0xFF00FEFF#32 = 0x30#32 ∨ cw = (cw.extractLsb' 0 8).setWidth 32 := by
  simp only [legalWord, Bool.and_eq_true, Bool.or_eq_true, beq_iff_eq] at h
  obtain ⟨⟨⟨_, hlow⟩, hhigh⟩, hop | ⟨hd, htl⟩⟩ := h
  · exact .inl ((and_initMask_eq_iff cw).mpr ⟨BitVec.eq_of_toNat_eq hop, hlow, hhigh⟩)
  · exact .inr (word_eq_op hd hlow htl hhigh)

/-- A word that selects a row is legal. -/
theorem legalWord_of_selects {r : OpRow} {cw : BitVec 32} (hr : r ∈ opcodeMap)
    (h : r.selects cw = true) : legalWord cw = true := by
  simp only [OpRow.selects, beq_iff_eq] at h
  obtain ⟨hmask, hlegal⟩ | ⟨hmask, hpattern⟩ := opcodeMap_full_or_init r hr
  · rw [hmask, BitVec.and_allOnes] at h
    rwa [h]
  · exact legalWord_of_init (by rw [← hmask, h, hpattern])

/-- A legal word selects a row. -/
theorem selects_of_legalWord {cw : BitVec 32} (h : legalWord cw = true) :
    opcodeMap.any (fun r => r.selects cw) = true := by
  obtain hinit | hop := init_or_op_of_legalWord h
  · have hsome : selectRow cw ≠ none := by simp [selectRow_init hinit]
    simpa [selectRow] using hsome
  · rw [hop] at h ⊢
    exact op_selects_row h

/-- The words that select a row are the legal ones. -/
theorem any_selects_eq_legalWord (cw : BitVec 32) :
    opcodeMap.any (fun r => r.selects cw) = legalWord cw := by
  rw [Bool.eq_iff_iff]
  refine ⟨fun h => ?_, selects_of_legalWord⟩
  obtain ⟨r, hr, hsel⟩ := List.any_eq_true.mp h
  exact legalWord_of_selects hr hsel

/-- An illegal word is answered `IllegalCommand`, and only the port has changed (R88). -/
theorem step_of_illegalWord {s : State} {c : Command} {rest : List PortEvent}
    (hport : s.port = .command c :: rest) (h : legalWord c.cw = false) :
    step s = errorAnswer .illegalCommand 0 { s with port := rest } := by
  have hdecode := decode_of_no_row ((any_selects_eq_legalWord c.cw).trans h)
  rw [step_command hport, runCommand, hdecode]
  rfl

/-- Settles O4: the rows exclude each other, so a word selects as many as it is legal; without a row
the decoder finds no command. -/
theorem illegalWordsAreExactlyTheUnmatchedOnes :
    Obligations.IllegalWordsAreExactlyTheUnmatchedOnes := by
  refine ⟨fun cw => ?_, fun s c rest => step_of_illegalWord⟩
  rw [length_filter_of_exclusive (opcodeMap_exclusive cw), any_selects_eq_legalWord]

end Sys2Proof.Safety

/-! PROOFS. The commands of the GHASH unit (`40_ghash.md` rules R100 to R106). The blocks that
`GHASH.UPDATE` cuts out of the bytes it has read are first said to be the blocks of the operand at
increasing offsets; each command is then compared with its rule check by check (D12). -/

namespace Sys2Proof.Machine

/-! ## The blocks of an operand (R63, R101) -/

/-- The chunk at index `i` begins at byte `16 i`. -/
theorem chunksN_eq_map_range (n : Nat) (d : Bytes) :
    chunksN n d = (List.range n).map fun i => (d.drop (16 * i)).take 16 := by
  induction n generalizing d with
  | zero => rfl
  | succ n ih =>
    simp [chunksN, ih, List.range_succ_eq_map, List.drop_drop, Nat.mul_succ, Nat.add_comm]

/-- A part of the bytes read from an operand is a read of the operand at the offset of that part. -/
theorem take_drop_memRead {input : Bytes} {ofs len : Int} {a n : Nat} (hofs : 0 ≤ ofs)
    (hfit : a + n ≤ len.toNat) :
    ((memRead input ofs len).drop a).take n = memRead input (ofs + a) n := by
  have hstart : (ofs + a).toNat = ofs.toNat + a := by omega
  have hcount : min n (len.toNat - a) = n := by omega
  rw [memRead, memRead, List.drop_take, List.take_take, List.drop_drop, hstart, hcount,
    Int.toNat_natCast]

/-- The chunks of whole blocks read from an operand are its blocks at increasing offsets (R101). -/
theorem chunks_memRead {data : Bytes} {ofs len : Int} (hblocks : wholeBlocks len = true)
    (hin : inOperand data ofs len = true) :
    chunks (memRead data ofs len) =
      (List.range (len.toNat / 16)).map fun i : Nat => memRead data (ofs + 16 * i) 16 := by
  obtain ⟨hofs, -, -⟩ := (inOperand_iff data ofs len).mp hin
  obtain ⟨hlen, hmod⟩ := (wholeBlocks_iff len).mp hblocks
  have hcount : (len.toNat + 15) / 16 = len.toNat / 16 := by omega
  rw [chunks, memRead_length hin, hcount, chunksN_eq_map_range]
  refine List.map_congr_left fun i hi => ?_
  have hfit : 16 * i + 16 ≤ len.toNat := by
    have := List.mem_range.mp hi
    omega
  exact_mod_cast take_drop_memRead hofs hfit

/-- The hash recurrence over whole blocks read from an operand takes them in increasing offset order
(R101). -/
theorem ghashFrom_memRead {data : Bytes} {ofs len : Int} (hblocks : wholeBlocks len = true)
    (hin : inOperand data ofs len = true) (h0 h1 : Word) (z : Word × Word) :
    ghashFrom h0 h1 z (memRead data ofs len) =
      (List.range (len.toNat / 16)).foldl
        (fun z (i : Nat) => ghashStep h0 h1 z (blockOfBytes (memRead data (ofs + 16 * i) 16))) z := by
  rw [ghashFrom, chunks_memRead hblocks hin, List.foldl_map]

/-- A fold over the integer indices of a range, which is how the coercion of a list of naturals to one
of integers elaborates, runs through the same indices. -/
theorem foldl_natCast_range {α : Type} (n : Nat) (f : α → Int → α) (a : α) :
    List.foldl f a (do let i ← List.range n; pure (i : Int)) =
      (List.range n).foldl (fun a (i : Nat) => f a i) a := by
  have hcast : (do let i ← List.range n; pure (i : Int)) = (List.range n).map Nat.cast :=
    List.flatMap_pure_eq_map _ _
  rw [hcast, List.foldl_map]

/-! ## The checks that fail (R63, R67, R106) -/

theorem wholeBlocks_eq_false_iff (len : Int) :
    wholeBlocks len = false ↔ len < 0 ∨ len % 16 ≠ 0 := by
  rw [← Bool.not_eq_true, wholeBlocks_iff]
  omega

/-- For a length that is not negative, an operand is left by its offset or behind its end. -/
theorem inOperand_eq_false_iff {len : Int} (hlen : 0 ≤ len) (input : Bytes) (ofs : Int) :
    inOperand input ofs len = false ↔ ofs < 0 ∨ ofs + len > input.length := by
  rw [← Bool.not_eq_true, inOperand_iff]
  omega

theorem ghashRestorable_eq_false_iff (s : State) :
    ghashRestorable s = false ↔ s.ghInit = false ∨ s.ghSv = false :=
  Bool.and_eq_false_iff

/-! ## The accumulator as output (R103) -/

/-- A digest of the zero accumulator is 16 zero bytes. -/
theorem bytesOfBlock_blockOfWords_zero :
    bytesOfBlock (blockOfWords 0 0) = List.replicate 16 0 := by decide

end Sys2Proof.Machine

namespace Sys2Proof.Safety

open Sys2Proof.Machine

/-! ## The commands of the GHASH unit -/

/-- `GHASH.UPDATE` in every state: past its checks it runs the hash recurrence over the bytes it reads
and writes the accumulator only (R101). -/
theorem exec_ghashUpdate (data : Bytes) (ofs len : Int) (s : State) :
    exec (.ghashUpdate data ofs len) s =
      if s.ghInit = false then errorAnswer .illegalState 0 s
      else if wholeBlocks len = false then errorAnswer .unsupportedLength 0 s
      else if inOperand data ofs len = false then .refused .operandBounds
      else okAnswer 0 [] (s.setAcc (ghashFrom s.h0 s.h1 (s.s0, s.s1) (memRead data ofs len))) := by
  rw [← absorb_eq]
  rfl

/-- Settles O21: the checks in their order, then the recurrence over the chunks read, which are the
blocks of the operand. -/
theorem ghashUpdateAbsorbsTheBlocksInOrder : Obligations.GhashUpdateAbsorbsTheBlocksInOrder := by
  intro data ofs len s
  rw [exec_ghashUpdate]
  refine ite_congr rfl (fun _ => rfl) fun _ => ?_
  refine ite_congr (propext (wholeBlocks_eq_false_iff len)) (fun _ => rfl) fun hlen => ?_
  have hnonneg : 0 ≤ len := not_lt.mp fun h => hlen (.inl h)
  refine ite_congr (propext (inOperand_eq_false_iff hnonneg data ofs)) (fun _ => rfl) fun hofs => ?_
  have hblocks := Bool.of_not_eq_false (mt (wholeBlocks_eq_false_iff len).mp hlen)
  have hin := Bool.of_not_eq_false (mt (inOperand_eq_false_iff hnonneg data ofs).mp hofs)
  rw [ghashFrom_memRead hblocks hin, foldl_natCast_range]
  rfl

/-- `GHASH.DIGEST` in every state: the accumulator is the output and is zero afterwards (R103). -/
theorem exec_ghashDigest (s : State) :
    exec .ghashDigest s =
      if s.ghInit = false then errorAnswer .illegalState 0 s
      else okAnswer 16 (bytesOfBlock (blockOfWords s.s0 s.s1)) s.clearAcc := by
  rw [bytesOfBlock_blockOfWords]
  rfl

/-- Settles O22: the state a digest leaves has the zero accumulator and is still initialised. -/
theorem ghashDigestIsDestructive : Obligations.GhashDigestIsDestructive := by
  refine fun s => ⟨exec_ghashDigest s, fun t hinit ht => ?_⟩
  rw [exec_ghashDigest, if_neg (by simp [hinit])] at ht
  obtain rfl := Host.Outcome.next.inj ht
  rw [exec_ghashDigest, if_neg (by simp [hinit])]
  exact congrArg (okAnswer 16 · _) bytesOfBlock_blockOfWords_zero

/-- Settles O20: by the length of the subkey; the words of the block that 16 bytes spell are `be64` of
its halves. -/
theorem ghashInitLoadsTheSubkey : Obligations.GhashInitLoadsTheSubkey := by
  intro k s
  change execGhashInit k s = _
  rw [execGhashInit, ite_not]
  refine ite_congr rfl (fun hlen => ?_) fun _ => rfl
  obtain ⟨hfirst, hsecond⟩ := words_of_bytes hlen
  rw [← hfirst, ← hsecond]
  rfl

/-- Settles O23: `RESET` and `SAVE` have the one check for `GH_INIT`, `RESTORE` that for the snapshot
too; what each writes is its register update. -/
theorem ghashResetSaveRestore : Obligations.GhashResetSaveRestore := fun s =>
  ⟨ite_congr rfl (fun _ => rfl) fun _ => rfl, ite_congr rfl (fun _ => rfl) fun _ => rfl,
    ite_congr (propext (ghashRestorable_eq_false_iff s)) (fun _ => rfl) fun _ => rfl⟩

end Sys2Proof.Safety

/-! PROOFS. The commands of the GCTR unit (`41_gctr.md` rules R120 to R125). The counter after
`gctr_fn` is first said by the number of blocks; each command is then compared with its rule check by
check (D12). -/

namespace Sys2Proof.Machine

/-! ## The counter after the keystream (R14, R121) -/

/-- Each chunk takes one counter block. -/
theorem gctrChunks_snd (e : Block → Block) (xs : List Bytes) (cb : Block) :
    (gctrChunks e xs cb).2 = inc32^[xs.length] cb := by
  induction xs generalizing cb with
  | nil => rfl
  | cons x xs ih => exact ih (inc32 cb)

/-- `gctr_fn` takes one counter block for each 16 bytes begun. -/
theorem gctrFn_snd (e : Block → Block) (cb : Block) (d : Bytes) :
    (gctrFn e cb d).2 = inc32^[(d.length + 15) / 16] cb := by
  rw [gctrFn, gctrChunks_snd, chunks_length]

/-- Over whole blocks read from an operand the counter advances once for each of them (R121). -/
theorem gctrFn_memRead_snd {input : Bytes} {ofs len : Int} (hblocks : wholeBlocks len = true)
    (hin : inOperand input ofs len = true) (e : Block → Block) (cb : Block) :
    (gctrFn e cb (memRead input ofs len)).2 = inc32^[len.toNat / 16] cb := by
  obtain ⟨hlen, hmod⟩ := (wholeBlocks_iff len).mp hblocks
  have hcount : (len.toNat + 15) / 16 = len.toNat / 16 := by omega
  rw [gctrFn_snd, memRead_length hin, hcount]

/-! ## The checks that fail (R67, R121, R125) -/

/-- The size check of `GCTR.UPDATE` as R121 writes it. -/
theorem gctrUpdate_sizeCheck_iff (input : Bytes) (len outCap : Int) :
    (wholeBlocks len = false ∨ len > input.length ∨ len > outCap) ↔
      len < 0 ∨ len % 16 ≠ 0 ∨ len > input.length ∨ len > outCap := by
  rw [wholeBlocks_eq_false_iff, or_assoc]

theorem gctrRestorable_eq_false_iff (s : State) :
    gctrRestorable s = false ↔ s.gcInit = false ∨ s.gcSv = false :=
  Bool.and_eq_false_iff

end Sys2Proof.Machine

namespace Sys2Proof.Safety

open Sys2Proof.Machine

/-! ## The commands of the GCTR unit -/

/-- `GCTR.UPDATE` with a keyed collaborator: past its checks it runs `gctr_fn` from `CTR` and writes
the counter only (R121). -/
theorem exec_gctrUpdate {s : State} {k : Key} (hk : s.ck = some k) (input : Bytes)
    (len outCap : Int) :
    exec (.gctrUpdate input len outCap) s =
      if s.gcInit = false then errorAnswer .illegalState 0 s
      else if wholeBlocks len = false ∨ len > input.length ∨ len > outCap then
        errorAnswer .internalSizeError 0 s
      else okAnswer len (gctrFn (Config.encrypt k) s.ctr (memRead input 0 len)).1
        (s.setCtr (gctrFn (Config.encrypt k) s.ctr (memRead input 0 len)).2) := by
  change gctrUpdateWith Config.params input len outCap s = _
  rw [gctrUpdateWith, withKey_some hk, memWrite_nil]
  rfl

/-- `GCTR.DOFINAL` with a keyed collaborator: past the check for `GC_INIT` every exit leaves the
counter at `ICB` and every other register as it was (R122). -/
theorem exec_gctrDofinal {s : State} {k : Key} (hk : s.ck = some k) (input : Bytes)
    (len outCap : Int) :
    exec (.gctrDofinal input len outCap) s =
      if s.gcInit = false then errorAnswer .illegalState 0 s
      else if len < 0 then errorAnswer .illegalBlockSize 0 s.rewindCtr
      else if len > input.length ∨ len > outCap then errorAnswer .internalSizeError 0 s.rewindCtr
      else okAnswer len (gctrFn (Config.encrypt k) s.ctr (memRead input 0 len)).1 s.rewindCtr := by
  change gctrDofinalWith Config.params input len outCap s = _
  rw [gctrDofinalWith, withKey_some hk, memWrite_nil, keystreamFinal_eq]
  rfl

/-- Settles O27: the checks in their order, then `gctr_fn` over whole blocks that lie within the
operand, which advances the counter once for each of them. -/
theorem gctrUpdateXorsTheKeystream : Obligations.GctrUpdateXorsTheKeystream := by
  intro input len outCap s k hk
  rw [exec_gctrUpdate hk]
  refine ite_congr rfl (fun _ => rfl) fun _ => ?_
  refine ite_congr (propext (gctrUpdate_sizeCheck_iff input len outCap)) (fun _ => rfl)
    fun hsize => ?_
  have hblocks : wholeBlocks len = true := (wholeBlocks_iff len).mpr (by omega)
  have hin : inOperand input 0 len = true := (inOperand_iff input 0 len).mpr (by omega)
  rw [gctrFn_memRead_snd hblocks hin]
  rfl

/-- Settles O28: every exit past the check for `GC_INIT` ends in the rewound counter. -/
theorem gctrDofinalResetsTheCounterOnEveryExit :
    Obligations.GctrDofinalResetsTheCounterOnEveryExit :=
  fun input len outCap _ _ hk => exec_gctrDofinal hk input len outCap

/-- Settles O26: by the two checks; what remains is the seeding of the counter. -/
theorem gctrInitSeedsTheCounter : Obligations.GctrInitSeedsTheCounter := fun _ _ =>
  ite_congr rfl (fun _ => rfl) fun _ => ite_congr rfl (fun _ => rfl) fun _ => rfl

/-- Settles O29: `RESET` and `SAVE` have the one check for `GC_INIT`, `RESTORE` that for the snapshot
too; what each writes is its register update. -/
theorem gctrResetSaveRestore : Obligations.GctrResetSaveRestore := fun s =>
  ⟨ite_congr rfl (fun _ => rfl) fun _ => rfl, ite_congr rfl (fun _ => rfl) fun _ => rfl,
    ite_congr (propext (gctrRestorable_eq_false_iff s)) (fun _ => rfl) fun _ => rfl⟩

end Sys2Proof.Safety

/-! PROOFS. The commands of the orchestrator (`42_gcm.md` rules R140 to R158). The sealing step and
what is absorbed behind it are first said as one register update, `sealedAbsorbing`, so that the
states inside a payload command and its tag are read off; each command is then compared with its
rule check by check (D12). -/

namespace Sys2Proof.Machine

/-! ## The length of the keystream's output (R14) -/

theorem length_le_of_mem_chunks {d c : Bytes} (h : c ∈ chunks d) : c.length ≤ 16 := by
  rw [chunks, chunksN_eq_map_range] at h
  obtain ⟨i, -, rfl⟩ := List.mem_map.mp h
  exact List.length_take_le 16 _

theorem xorBytes_bytesOfBlock_length {x : Bytes} (h : x.length ≤ 16) (b : Block) :
    (xorBytes x (bytesOfBlock b)).length = x.length := by
  rw [xorBytes, List.length_zipWith, bytesOfBlock_length, Nat.min_eq_left h]

theorem gctrChunks_fst_length (e : Block → Block) {xs : List Bytes}
    (h : ∀ x ∈ xs, x.length ≤ 16) (cb : Block) :
    (gctrChunks e xs cb).1.length = xs.flatten.length := by
  induction xs generalizing cb with
  | nil => rfl
  | cons x xs ih =>
    obtain ⟨hx, hxs⟩ := List.forall_mem_cons.mp h
    rw [gctrChunks, List.length_append, xorBytes_bytesOfBlock_length hx, ih hxs,
      List.flatten_cons, List.length_append]

/-- The output of `gctr_fn` is as long as its input. -/
theorem gctrFn_fst_length (e : Block → Block) (cb : Block) (d : Bytes) :
    (gctrFn e cb d).1.length = d.length := by
  rw [gctrFn, gctrChunks_fst_length e fun _ => length_le_of_mem_chunks, chunks_flatten]

/-! ## Internal steps that do not meet (R153, R154) -/

theorem absorb_setCtr (d : Bytes) (b : Block) (s : State) :
    absorb d (s.setCtr b) = (absorb d s).setCtr b := by
  rw [absorb_eq, absorb_eq]
  rfl

theorem absorb_appendIbuf (d w : Bytes) (s : State) :
    absorb d (s.appendIbuf w) = (absorb d s).appendIbuf w := by
  rw [absorb_eq, absorb_eq]
  rfl

/-- The tag does not depend on the counter (R143, `90_conflicts.md` C10). -/
theorem computeTag_setCtr (e : Block → Block) (b : Block) (s : State) :
    computeTag e (s.setCtr b) = computeTag e s := by
  rw [computeTag_eq, computeTag_eq]
  rfl

/-- The tag does not depend on the input buffer (R143). -/
theorem computeTag_appendIbuf (e : Block → Block) (w : Bytes) (s : State) :
    computeTag e (s.appendIbuf w) = computeTag e s := by
  rw [computeTag_eq, computeTag_eq]
  rfl

theorem tagFn_length (e : Block → Block) (j0 h : Block) {t : Nat} (ht : t ≤ 16) :
    (tagFn e j0 h t).length = t := by
  rw [tagFn, List.length_take, bytesOfBlock_length, Nat.min_eq_left ht]

/-! ## The checks that fail (R63, R148 to R150) -/

/-- The three ways to leave an operand, for a length of either sign. -/
theorem inOperand_eq_false_iff_or (input : Bytes) (ofs len : Int) :
    inOperand input ofs len = false ↔ ofs < 0 ∨ len < 0 ∨ ofs + len > input.length := by
  rw [← Bool.not_eq_true, inOperand_iff]
  omega

/-- An operand read from its start is left by its length alone. -/
theorem inOperand_zero_eq_false_iff (input : Bytes) (len : Int) :
    inOperand input 0 len = false ↔ len < 0 ∨ len > input.length := by
  rw [inOperand_eq_false_iff_or]
  omega

/-- A limit on a total, with a length that has passed its check, in natural numbers and in
integers. -/
theorem total_gt_iff {len : Int} (hlen : 0 ≤ len) (held limit : Nat) :
    held + len.toNat > limit ↔ held + len > limit := by
  omega

theorem gcmReady_eq_false_iff (s : State) : gcmReady s = false ↔ s.phase = .uninit := by
  rw [← Bool.not_eq_true, gcmReady_iff, not_not]

theorem gcmRestorable_eq_false_iff (s : State) :
    gcmRestorable s = false ↔ s.phase = .uninit ∨ (s.gmSv && s.gcSv && s.ghSv) = false := by
  rw [gcmRestorable, Bool.and_eq_false_iff, gcmReady_eq_false_iff]

end Sys2Proof.Machine

namespace Sys2Proof.Safety

open Sys2Proof.Machine

/-! ## Legal payload commands (R155) -/

theorem payloadLegal_eq_false_iff (d : Bool) (s : State) :
    payloadLegal d s = false ↔ payloadIllegal d s := by
  rw [← Bool.not_eq_true, payloadLegal_iff, not_and_or, not_or]

theorem phase_of_not_payloadIllegal {d : Bool} {s : State} (h : ¬ payloadIllegal d s) :
    s.phase = .init ∨ s.phase = .sealed :=
  phase_of_payloadLegal (Bool.of_not_eq_false (mt (payloadLegal_eq_false_iff d s).mp h))

/-! ## Sealing and absorbing as one update (R142, R153) -/

/-- The registers once the associated data is sealed and the bytes `d` are absorbed behind it. -/
def sealedAbsorbing (d : Bytes) (s : State) : State :=
  { s with
    s0 := (ghashFrom s.h0 s.h1 (s.s0, s.s1) (sealedAad s ++ d)).1
    s1 := (ghashFrom s.h0 s.h1 (s.s0, s.s1) (sealedAad s ++ d)).2
    phase := .sealed, aad := aadAfterSeal s, aadlen := aadlenAfterSeal s }

theorem sixteen_dvd_pad16_length (b : Bytes) : 16 ∣ (pad16 b).length :=
  (pad16ReachesTheNextMultipleOf16 b).1

theorem sixteen_dvd_sealedAad_length (s : State) : 16 ∣ (sealedAad s).length := by
  unfold sealedAad
  split
  · exact sixteen_dvd_pad16_length s.aad
  · exact Nat.dvd_zero 16

/-- In a phase that allows payload, `seal_aad` leaves the operation sealed, whether this is the
first payload command or a later one (R142). -/
theorem sealAad_eq {s : State} (h : s.phase = .init ∨ s.phase = .sealed) :
    sealAad s = sealedAbsorbing [] s := by
  rcases h with hinit | hsealed
  · rw [sealAad_init hinit, sealedAbsorbing, sealedAad, aadAfterSeal, aadlenAfterSeal,
      if_pos hinit, if_pos hinit, if_pos hinit, List.append_nil]
    rfl
  · have hother : s.phase ≠ .init := by simp [hsealed]
    rw [sealAad_other hother, sealedAbsorbing, sealedAad, aadAfterSeal, aadlenAfterSeal,
      if_neg hother, if_neg hother, if_neg hother, ← hsealed]
    rfl

/-- Absorbing after the seal runs the hash on, as the sealed data is whole blocks (R11, R107). -/
theorem absorb_sealedAbsorbing_nil (d : Bytes) (s : State) :
    absorb d (sealedAbsorbing [] s) = sealedAbsorbing d s := by
  rw [absorb_eq, sealedAbsorbing, sealedAbsorbing,
    ghashFrom_append (sixteen_dvd_sealedAad_length s) _ _ _ d, List.append_nil]
  rfl

/-- The tag over the sealed data, further whole blocks and the length block is that of the hash over
all of them at once (R143). -/
theorem computeTag_sealedAbsorbing (e : Block → Block) {d : Bytes} (hd : 16 ∣ d.length) (n : Nat)
    (s : State) :
    computeTag e ((sealedAbsorbing d s).addProc n) =
      tagFn e s.j0
        (hashFrom s (sealedAad s ++ d ++ lenBlock (aadlenAfterSeal s) (s.proc + n))) s.taglen := by
  have hblocks : 16 ∣ (sealedAad s ++ d).length := by
    rw [List.length_append]
    exact Nat.dvd_add (sixteen_dvd_sealedAad_length s) hd
  rw [computeTag_eq, hashFrom, ghashFrom_append hblocks]
  rfl

/-! ## Encryption (R144, R145) -/

section Encryption

variable {s : State} (h : s.phase = .init ∨ s.phase = .sealed) (e : Block → Block) (d : Bytes)
include h

theorem ciphertext_eq : ciphertext e d s = (gctrFn e s.ctr d).1 := by
  rw [ciphertext, sealAad_eq h]
  rfl

theorem afterEncrypt_eq :
    afterEncrypt e d s =
      ((sealedAbsorbing (gctrFn e s.ctr d).1 s).setCtr (gctrFn e s.ctr d).2).addProc d.length := by
  rw [afterEncrypt, ciphertext_eq h, sealAad_eq h, keystreamAdvance_eq, absorb_setCtr,
    absorb_sealedAbsorbing_nil]
  rfl

theorem beforeEncryptTag_eq :
    beforeEncryptTag e d s =
      ((sealedAbsorbing (pad16 (gctrFn e s.ctr d).1) s).addProc d.length).setCtr s.icb := by
  rw [beforeEncryptTag, ciphertext_eq h, sealAad_eq h, keystreamFinal_eq, absorb_setCtr,
    absorb_sealedAbsorbing_nil]
  rfl

end Encryption

/-- Settles O36: the checks in their order, then the sealing step, `gctr_fn` over whole blocks, and
the hash of the ciphertext behind the sealed data. -/
theorem gcmEncryptAbsorbsItsCiphertext : Obligations.GcmEncryptAbsorbsItsCiphertext := by
  intro input len outCap s k hk
  change gcmEncryptWith Config.params input len outCap s = _
  rw [gcmEncryptWith, withKey_some hk]
  refine ite_congr (propext (payloadLegal_eq_false_iff false s)) (fun _ => rfl) fun hlegal => ?_
  refine ite_congr rfl (fun _ => rfl) fun hmod => ?_
  refine ite_congr (by rw [inOperand_zero_eq_false_iff, or_assoc]) (fun _ => rfl) fun hbound => ?_
  have hlen : 0 ≤ len := by omega
  refine ite_congr (propext (total_gt_iff hlen _ _)) (fun _ => rfl) fun _ => ?_
  have hopen := phase_of_not_payloadIllegal hlegal
  have hblocks : wholeBlocks len = true := (wholeBlocks_iff len).mpr (by omega)
  have hin : inOperand input 0 len = true := (inOperand_iff input 0 len).mpr (by omega)
  rw [memWrite_nil, ciphertext_eq hopen, afterEncrypt_eq hopen, memRead_length hin,
    gctrFn_memRead_snd hblocks hin]
  rfl

/-- Settles O37: the checks in their order; the tag is written right behind the ciphertext, which is
as long as the payload. -/
theorem gcmEncryptFinalAppendsTheTag : Obligations.GcmEncryptFinalAppendsTheTag := by
  intro input len outCap s k hk
  change gcmEncryptFinalWith Config.params input len outCap s = _
  rw [gcmEncryptFinalWith, withKey_some hk]
  refine ite_congr (propext (payloadLegal_eq_false_iff false s)) (fun _ => rfl) fun hlegal => ?_
  refine ite_congr (propext (inOperand_zero_eq_false_iff input len)) (fun _ => rfl) fun hbound => ?_
  have hlen : 0 ≤ len := by omega
  refine ite_congr (propext (total_gt_iff hlen _ _)) (fun _ => rfl) fun _ => ?_
  refine ite_congr rfl (fun _ => rfl) fun _ => ?_
  have hopen := phase_of_not_payloadIllegal hlegal
  have hin : inOperand input 0 len = true := (inOperand_iff input 0 len).mpr (by omega)
  dsimp only
  rw [memWrite_nil, ciphertext_eq hopen, beforeEncryptTag_eq hopen, computeTag_setCtr,
    computeTag_sealedAbsorbing _ (sixteen_dvd_pad16_length _), afterTag_eq,
    ← gctrFn_fst_length (Config.params.encrypt k) s.ctr (memRead input 0 len), memWrite_end,
    gctrFn_fst_length, memRead_length hin]
  rfl

/-! ## Decryption (R146, R147) -/

section Decryption

variable {s : State} (h : s.phase = .init ∨ s.phase = .sealed) (e : Block → Block) (d : Bytes)
include h

theorem received_eq : received d s = (sealedAbsorbing [] s).appendIbuf d := by
  rw [received, sealAad_eq h]

/-- The buffer, seen before the payload command, splits into ciphertext and tag as it does after the
seal (R147). -/
theorem trueCiphertext_received :
    trueCiphertext (received d s) =
      (s.ibuf ++ d).take ((s.ibuf ++ d).length - s.taglen) := by
  rw [received_eq h]
  rfl

theorem receivedTag_received :
    receivedTag (received d s) = (s.ibuf ++ d).drop ((s.ibuf ++ d).length - s.taglen) := by
  rw [received_eq h]
  rfl

theorem keystreamOut_received (c : Bytes) :
    keystreamOut e c (received d s) = (gctrFn e s.ctr c).1 := by
  rw [received_eq h]
  rfl

theorem beforeDecryptTag_received :
    beforeDecryptTag e (received d s) =
      (((sealedAbsorbing (pad16 (trueCiphertext (received d s))) s).addProc
        (trueCiphertext (received d s)).length).appendIbuf d).setCtr s.icb := by
  rw [beforeDecryptTag, keystreamFinal_eq, ← absorb_sealedAbsorbing_nil]
  generalize trueCiphertext (received d s) = c
  rw [received_eq h, absorb_appendIbuf, absorb_sealedAbsorbing_nil]
  rfl

/-- The expected tag of `GCM.DECRYPT_FINAL` is over the ciphertext split off the buffer. -/
theorem computeTag_beforeDecryptTag :
    computeTag e (beforeDecryptTag e (received d s)) =
      tagFn e s.j0
        (hashFrom s (sealedAad s ++ pad16 (trueCiphertext (received d s)) ++
          lenBlock (aadlenAfterSeal s) (s.proc + (trueCiphertext (received d s)).length)))
        s.taglen := by
  rw [beforeDecryptTag_received h, computeTag_setCtr, computeTag_appendIbuf,
    computeTag_sealedAbsorbing e (sixteen_dvd_pad16_length _)]

/-- The one state that success and a tag mismatch of `GCM.DECRYPT_FINAL` leave (R147, R184). -/
theorem decryptFinalState_eq :
    (afterTag (beforeDecryptTag e (received d s))).setPhase .final =
      { s with
        s0 := 0, s1 := 0, ctr := s.icb
        phase := .final, aad := aadAfterSeal s, aadlen := aadlenAfterSeal s
        ibuf := s.ibuf ++ d, proc := s.proc + (trueCiphertext (received d s)).length } := by
  rw [beforeDecryptTag_received h, afterTag_eq]
  rfl

end Decryption

/-- Settles O38: the checks in their order, then the sealing step and the buffer. -/
theorem gcmDecryptOnlyBuffers : Obligations.GcmDecryptOnlyBuffers := by
  intro input len outCap s
  change gcmDecryptWith Config.params input len outCap s = _
  rw [gcmDecryptWith]
  refine ite_congr (propext (payloadLegal_eq_false_iff true s)) (fun _ => rfl) fun hlegal => ?_
  refine ite_congr (propext (inOperand_zero_eq_false_iff input len)) (fun _ => rfl) fun hbound => ?_
  have hlen : 0 ≤ len := by omega
  refine ite_congr (propext (total_gt_iff hlen _ _)) (fun _ => rfl) fun _ => ?_
  refine ite_congr rfl (fun _ => rfl) fun _ => ?_
  rw [sealAad_eq (phase_of_not_payloadIllegal hlegal), sealedAbsorbing, List.append_nil]
  rfl

/-- Settles O39: the checks in their order; past them the tag gate decides between two answers in
one state. -/
theorem gcmDecryptFinalVerifiesBeforeReleasing :
    Obligations.GcmDecryptFinalVerifiesBeforeReleasing := by
  intro input len outCap s k hk
  change gcmDecryptFinalWith Config.params input len outCap s = _
  rw [gcmDecryptFinalWith, withKey_some hk]
  dsimp only
  refine ite_congr (propext (payloadLegal_eq_false_iff true s)) (fun _ => rfl) fun hlegal => ?_
  refine ite_congr (propext (inOperand_zero_eq_false_iff input len)) (fun _ => rfl) fun hbound => ?_
  have hlen : 0 ≤ len := by omega
  have htotal : ((s.ibuf.length : Int) + len).toNat = s.ibuf.length + len.toNat := by omega
  rw [htotal]
  refine ite_congr (propext (total_gt_iff hlen _ _)) (fun _ => rfl) fun _ => ?_
  refine ite_congr rfl (fun _ => rfl) fun _ => ?_
  refine ite_congr (propext (by omega)) (fun _ => rfl) fun _ => ?_
  refine ite_congr rfl (fun _ => rfl) fun _ => ?_
  have hopen := phase_of_not_payloadIllegal hlegal
  rw [computeTag_beforeDecryptTag hopen, decryptFinalState_eq hopen, keystreamOut_received hopen,
    receivedTag_received hopen, trueCiphertext_received hopen, memWrite_nil, ← ite_not]
  exact ite_congr (Bool.not_eq_false _) (fun _ => rfl) fun _ => rfl

/-- Settles O32: by the presence of key and IV, then the checks in their order; what remains is the
updates of the three units. -/
theorem gcmInitStartsTheOperation : Obligations.GcmInitStartsTheOperation := by
  intro dec key iv taglen s
  cases key with
  | none => rfl
  | some k =>
    cases iv with
    | none => rfl
    | some v =>
      exact ite_congr rfl (fun _ => rfl) fun _ => ite_congr rfl (fun _ => rfl) fun _ =>
        ite_congr rfl (fun _ => rfl) fun _ => rfl

/-- Settles O35: the checks in their order; what remains is the append. -/
theorem gcmUpdateAadAppends : Obligations.GcmUpdateAadAppends := by
  intro data ofs len s
  change gcmUpdateAadWith Config.params data ofs len s = _
  rw [gcmUpdateAadWith]
  refine ite_congr rfl (fun _ => rfl) fun _ => ?_
  refine ite_congr (propext (inOperand_eq_false_iff_or data ofs len)) (fun _ => rfl)
    fun hbound => ?_
  have hlen : 0 ≤ len := by omega
  exact ite_congr (propext (total_gt_iff hlen _ _)) (fun _ => rfl) fun _ =>
    ite_congr rfl (fun _ => rfl) fun _ => rfl

/-- Settles O40: `RESET` and `SAVE` have the one check for `PHASE`, `RESTORE` that for the three
snapshot bits too; what each writes is the register updates of the units. -/
theorem gcmResetSaveRestore : Obligations.GcmResetSaveRestore := fun s =>
  ⟨ite_congr (propext (gcmReady_eq_false_iff s)) (fun _ => rfl) fun _ => rfl,
    ite_congr (propext (gcmReady_eq_false_iff s)) (fun _ => rfl) fun _ => rfl,
    ite_congr (propext (gcmRestorable_eq_false_iff s)) (fun _ => rfl) fun _ => rfl⟩

/-- Settles O41: neither accessor has a check. -/
theorem accessorsReturnTheirRegister : Obligations.AccessorsReturnTheirRegister := fun _ =>
  ⟨rfl, rfl⟩

/-! ## What an answer carries, check by check (R158) -/

/-- Whatever next state and response the outcome `o` gives, they are in the relation `Q`. -/
def Answers (Q : State → Response → Prop) (o : Result) : Prop :=
  ∀ (t : State) (r : Response), o = .next t → t.response = some r → Q t r

namespace Answers

variable {Q : State → Response → Prop} {s u : State} {o : Result}

/-- A refused command answers nothing (R186). -/
theorem of_refuse (q : Refusal) : Answers Q (refuse q) := by
  rintro t r ⟨⟩

theorem of_raise {st : Status} {info : BitVec 8}
    (h : Q (u.respond ⟨st, info, 0, []⟩) ⟨st, info, 0, []⟩) : Answers Q (raise st info u) := by
  rintro t r ⟨⟩ ⟨⟩
  exact h

theorem of_finish {n : Int} {out : Bytes}
    (h : Q (u.respond ⟨.ok, 0, n, out⟩) ⟨.ok, 0, n, out⟩) : Answers Q (finish n out u) := by
  rintro t r ⟨⟩ ⟨⟩
  exact h

/-- A rule that uses the key answers as it does with the key in `CK` (R92). -/
theorem of_withKey {f : Key → Result} (h : ∀ k, s.ck = some k → Answers Q (f k)) :
    Answers Q (withKey s f) := by
  intro t r ht
  obtain ⟨k, hk, hf⟩ := withKey_next ht
  exact h k hk t r hf

/-- A check, with what is known on each side of it. -/
theorem of_ite {c : Prop} [Decidable c] {p : Result} (hp : c → Answers Q p)
    (ho : ¬ c → Answers Q o) : Answers Q (if c then p else o) := by
  split
  · next hc => exact hp hc
  · next hc => exact ho hc

end Answers

/-- `GCM.DECRYPT` answers with `n = 0` and no output, whatever the outcome (R146). -/
theorem gcmDecrypt_answers_nothing (input : Bytes) (len outCap : Int) (s : State) :
    Answers (fun _ r => r.n = 0 ∧ r.out = []) (exec (.gcmDecrypt input len outCap) s) :=
  .of_ite (fun _ => .of_raise ⟨rfl, rfl⟩) fun _ => .of_ite (fun _ => .of_refuse _) fun _ =>
    .of_ite (fun _ => .of_refuse _) fun _ => .of_ite (fun _ => .of_refuse _) fun _ =>
      .of_finish ⟨rfl, rfl⟩

/-- The tag in the buffer of `t` is the expected one, computed under the key in `CK` over the
associated data of `s` and the ciphertext in the buffer of `t` (R147). -/
def TagVerified (s t : State) : Prop :=
  ∃ k, s.ck = some k ∧
    tagFn (Config.encrypt k) s.j0
      (hashFrom s (sealedAad s ++ pad16 (trueCiphertext t) ++
        lenBlock t.aadlen (s.proc + (trueCiphertext t).length))) s.taglen = receivedTag t

/-- Output comes with `OK` only, and `OK` with a verified tag only (R158). -/
def ReleasesVerified (s t : State) (r : Response) : Prop :=
  (r.out ≠ [] → r.status = .ok) ∧ (r.status = .ok → TagVerified s t)

/-- An error has no output and is not `OK`, so it releases nothing (R188). -/
theorem releasesVerified_of_error {st : Status} (hst : st ≠ .ok) (info : BitVec 8) (s t : State) :
    ReleasesVerified s t ⟨st, info, 0, []⟩ :=
  ⟨fun hout => absurd rfl hout, fun hok => absurd hok hst⟩

/-- Once the buffer holds a whole tag, the received tag has the operation's tag length (R147). -/
theorem receivedTag_length {s : State} (h : s.taglen ≤ s.ibuf.length) :
    (receivedTag s).length = s.taglen := by
  rw [receivedTag, List.length_drop]
  omega

/-- The gate of `GCM.DECRYPT_FINAL`: when the comparison of tags succeeds, the tag in the buffer of
the state it leaves is the expected one (R19, R147). -/
theorem tagVerified_of_tagEqual {s : State} {k : Key} (hk : s.ck = some k)
    (hopen : s.phase = .init ∨ s.phase = .sealed) (d : Bytes) (r : Response)
    (ht : s.taglen ≤ 16) (htag : s.taglen ≤ (received d s).ibuf.length)
    (heq : tagEqual (computeTag (Config.encrypt k)
      (beforeDecryptTag (Config.encrypt k) (received d s))) (receivedTag (received d s)) = true) :
    TagVerified s (((afterTag (beforeDecryptTag (Config.encrypt k) (received d s))).setPhase
      .final).respond r) := by
  refine ⟨k, hk, ?_⟩
  have htaglen : (received d s).taglen = s.taglen := by
    rw [received_eq hopen]
    rfl
  have hlen : (receivedTag (received d s)).length = s.taglen := by
    rw [receivedTag_length (htaglen ▸ htag), htaglen]
  rw [computeTag_beforeDecryptTag hopen,
    tagEqualIsEquality _ _ (by rw [tagFn_length _ _ _ ht, hlen]), received_eq hopen] at heq
  rw [decryptFinalState_eq hopen]
  exact heq

/-- Settles O46: the checks of `GCM.DECRYPT_FINAL` answer errors or refuse; past them the tag gate
answers `OK` only when the tags are equal. -/
theorem noPlaintextBeforeVerification : Obligations.NoPlaintextBeforeVerification := by
  refine ⟨fun input len outCap s t r => gcmDecrypt_answers_nothing input len outCap s t r,
    fun input len outCap s t r ht => ?_⟩
  suffices h : Answers (ReleasesVerified s) (exec (.gcmDecryptFinal input len outCap) s) from h t r
  refine .of_ite (fun _ => .of_raise (releasesVerified_of_error (by decide) ..)) fun hlegal => ?_
  have hopen := phase_of_payloadLegal (Bool.of_not_eq_false hlegal)
  refine .of_ite (fun _ => .of_refuse _) fun hin => ?_
  refine .of_ite (fun _ => .of_refuse _) fun _ => .of_ite (fun _ => .of_refuse _) fun _ => ?_
  refine .of_ite (fun _ => .of_raise (releasesVerified_of_error (by decide) ..)) fun hneed => ?_
  refine .of_ite (fun _ => .of_raise (releasesVerified_of_error (by decide) ..)) fun _ => ?_
  have htag : s.taglen ≤ (received (memRead input 0 len) s).ibuf.length := by
    rw [received_eq hopen, State.appendIbuf_ibuf, List.length_append,
      memRead_length (Bool.of_not_eq_false hin)]
    exact not_lt.mp hneed
  refine .of_withKey fun k hk => ?_
  refine .of_ite (fun _ => .of_raise (releasesVerified_of_error (by decide) ..)) fun heq => ?_
  exact .of_finish ⟨fun _ => rfl, fun _ =>
    tagVerified_of_tagEqual hk hopen _ _ ht htag (Bool.of_not_eq_false heq)⟩

end Sys2Proof.Safety

/-! PROOFS. The errors and refusals of `60_exceptions.md` (R181 to R189). Each command is walked
once, along the checks of its rule, and shown to end as the two tables R182 and R186 and the
exceptions of R184 say (`EndsByTables`); the statements of the family are read off that. -/

namespace Sys2Proof.Machine

/-! ## The checks that fail, as the tables write them (R182, R186) -/

/-- Each of the three snapshot bits is a row of R182 of its own. -/
theorem gcmRestorable_eq_false_iff_or (s : State) :
    gcmRestorable s = false ↔
      s.phase = .uninit ∨ s.gmSv = false ∨ s.gcSv = false ∨ s.ghSv = false := by
  rw [gcmRestorable_eq_false_iff, Bool.and_eq_false_iff, Bool.and_eq_false_iff, or_assoc]

/-- An operand that passed its check has a length that is not negative (R63). -/
theorem nonneg_of_inOperand {input : Bytes} {ofs len : Int}
    (h : ¬ inOperand input ofs len = false) : 0 ≤ len :=
  ((inOperand_iff input ofs len).mp (Bool.of_not_eq_false h)).2.1

theorem withinCap_eq_false_iff (cap : Option Nat) (n : Nat) :
    withinCap cap n = false ↔ ∃ c, cap = some c ∧ n > c := by
  rw [← Bool.not_eq_true, withinCap_iff]
  push Not
  rfl

end Sys2Proof.Machine

namespace Sys2Proof.Safety

open Sys2Proof.Machine

/-- The two limits of a buffer, checked one after the other in natural numbers, are the one row of
R186 for a total, once the length has passed its check. -/
theorem beyond_iff {len : Int} (hlen : 0 ≤ len) (cap : Option Nat) (held : Nat) :
    beyond cap (held + len) ↔
      held + len.toNat > maxLen ∨ withinCap cap (held + len.toNat) = false := by
  simp only [beyond, withinCap_eq_false_iff, total_gt_iff hlen]

/-! ## How a command ends -/

/-- The registers after a command that ends in the error `st` with `info`: those before it, but for
the two exceptions of R184. -/
def errorState (i : Instr) (s : State) (st : Status) (info : BitVec 8) : State :=
  match i with
  | .gctrDofinal _ _ _ => if st = .illegalState then s else s.rewindCtr
  | .gcmDecryptFinal input len _ =>
    if st = .aeadBadTag ∧ info = 2 then
      { s with
        s0 := 0, s1 := 0, ctr := s.icb
        phase := .final, aad := aadAfterSeal s, aadlen := aadlenAfterSeal s
        ibuf := s.ibuf ++ memRead input 0 len
        proc := s.proc + ((s.ibuf ++ memRead input 0 len).length - s.taglen) }
    else s
  | _ => s

/-- `GCM.DECRYPT_FINAL` keeps the registers in every error but the tag mismatch (R184). -/
theorem errorState_decryptFinal_of_not_mismatch {st : Status} {info : BitVec 8}
    (h : ¬ (st = .aeadBadTag ∧ info = 2)) (input : Bytes) (len outCap : Int) (s : State) :
    errorState (.gcmDecryptFinal input len outCap) s st info = s :=
  if_neg h

/-- `IllegalState` keeps the registers, in the two commands of R184 as in any other (R182). -/
theorem errorState_illegalState (i : Instr) (s : State) (info : BitVec 8) :
    errorState i s .illegalState info = s := by
  cases i with
  | gctrDofinal input len outCap => rfl
  | gcmDecryptFinal input len outCap =>
    have hne : ¬ (Status.illegalState = .aeadBadTag ∧ info = 2) := fun h => nomatch h.1
    exact errorState_decryptFinal_of_not_mismatch hne input len outCap s
  | _ => rfl

/-- The tag mismatch of `GCM.DECRYPT_FINAL` leaves what success leaves (R147, R184). -/
theorem decryptFinalState_eq_errorState {s : State} (h : s.phase = .init ∨ s.phase = .sealed)
    (e : Block → Block) (input : Bytes) (len outCap : Int) :
    (afterTag (beforeDecryptTag e (received (memRead input 0 len) s))).setPhase .final =
      errorState (.gcmDecryptFinal input len outCap) s .aeadBadTag infoTagMismatch := by
  rw [decryptFinalState_eq h, trueCiphertext_received h, List.length_take,
    Nat.min_eq_left (Nat.sub_le _ _)]
  rfl

/-- A status with its `info` as R181 pairs them, of an error other than `IllegalState`. -/
abbrev IsNamedError (st : Status) (info : BitVec 8) : Prop :=
  st ≠ .ok ∧ st ≠ .illegalState ∧
    (st = .aeadBadTag → info = 1 ∨ info = 2) ∧ (st ≠ .aeadBadTag → info = 0)

/-- How the command `i` may end in `s` once it is in no `IllegalState` case: it is refused in a case
of the table R186 and in no other; or it raises a named error, in the state R184 says; or it
succeeds, or it faults for want of a key (log 11). -/
inductive EndsLegal (i : Instr) (s : State) : Result → Prop where
  | refused {q : Refusal} (h : refusedCase i s) : EndsLegal i s (refuse q)
  | error {st : Status} {info : BitVec 8} {u : State} (hst : IsNamedError st info)
      (hu : u = errorState i s st info) (h : ¬ refusedCase i s) : EndsLegal i s (raise st info u)
  | success {n : Int} {out : Bytes} {u : State} (h : ¬ refusedCase i s) :
      EndsLegal i s (finish n out u)
  | fault {f : Fault} (h : ¬ refusedCase i s) : EndsLegal i s (.fault f)

/-- The outcome `o` of `i` in `s` is the one of the table R182 in its cases, and otherwise one of
`EndsLegal`. -/
def EndsByTables (i : Instr) (s : State) (o : Result) : Prop :=
  (illegalStateCause i s ∧ o = errorAnswer .illegalState 0 s) ∨
    (¬ illegalStateCause i s ∧ EndsLegal i s o)

namespace EndsLegal

variable {i : Instr} {s : State} {o : Result}

/-- A rule that uses the key: the key is there and the rest runs with it, or the machine faults
(R92, log 11). -/
theorem of_withKey {f : Key → Result} (h : ¬ refusedCase i s) (hf : ∀ k, EndsLegal i s (f k)) :
    EndsLegal i s (withKey s f) := by
  cases hck : s.ck with
  | none =>
    rw [withKey_none hck]
    exact .fault h
  | some k =>
    rw [withKey_some hck]
    exact hf k

/-- The three refusal checks of a command that appends to a buffer: the operand, `MAXLEN` and the
buffer's capacity (R141, R146, R147). -/
theorem of_bufferChecks {c : Prop} [Decidable c] {cap : Option Nat} {held : Nat} {len : Int}
    (hlen : ¬ c → 0 ≤ len) (href : refusedCase i s ↔ c ∨ beyond cap (held + len))
    (ho : ¬ refusedCase i s → EndsLegal i s o) :
    EndsLegal i s
      (if c then refuse .operandBounds
      else if held + len.toNat > maxLen then refuse .lengthLimit
      else if withinCap cap (held + len.toNat) = false then refuse .bufferCapacity
      else o) := by
  refine iteInduction (fun hc => .refused (href.mpr (.inl hc))) fun hc => ?_
  have hbeyond := beyond_iff (hlen hc) cap held
  have hlimits := fun h => href.mpr (.inr (hbeyond.mpr h))
  refine iteInduction (fun hmax => .refused (hlimits (.inl hmax))) fun hmax => ?_
  refine iteInduction (fun hcap => .refused (hlimits (.inr hcap))) fun hcap => ?_
  exact ho fun h => (href.mp h).elim hc fun hb => (hbeyond.mp hb).elim hmax hcap

/-- Of the ways to end, the refusal alone is in a case of R186. -/
theorem refused_iff (ho : EndsLegal i s o) : (∃ q, o = .refused q) ↔ refusedCase i s := by
  cases ho with
  | refused h => exact iff_of_true ⟨_, rfl⟩ h
  | error _ _ h => exact iff_of_false (fun ⟨_, hq⟩ => nomatch hq) h
  | success h => exact iff_of_false (fun ⟨_, hq⟩ => nomatch hq) h
  | fault h => exact iff_of_false (fun ⟨_, hq⟩ => nomatch hq) h

end EndsLegal

namespace EndsByTables

variable {i : Instr} {s : State} {o : Result}

/-- A command with no row in R182. -/
theorem of_legal (hi : ¬ illegalStateCause i s) (ho : EndsLegal i s o) : EndsByTables i s o :=
  .inr ⟨hi, ho⟩

/-- The check for `IllegalState`, the first of every rule that has one (D12). -/
theorem of_check {c : Prop} [Decidable c] (hc : c ↔ illegalStateCause i s)
    (ho : ¬ illegalStateCause i s → EndsLegal i s o) :
    EndsByTables i s (if c then raise .illegalState 0 s else o) :=
  iteInduction (fun h => .inl ⟨hc.mp h, rfl⟩) fun h =>
    have hi := mt hc.mpr h
    .inr ⟨hi, ho hi⟩

/-- A rule that is illegal in some states and otherwise succeeds, as most are. -/
theorem of_check_finish {c : Prop} [Decidable c] {n : Int} {out : Bytes} {u : State}
    (hc : c ↔ illegalStateCause i s) (h : ¬ refusedCase i s) :
    EndsByTables i s (if c then raise .illegalState 0 s else finish n out u) :=
  of_check hc fun _ => .success h

end EndsByTables

open EndsLegal EndsByTables

/-! ## The commands with operands to check, in the order of their checks (D12) -/

theorem ghashInit_endsByTables (subkey : Bytes) (s : State) :
    EndsByTables (.ghashInit subkey) s (execGhashInit subkey s) :=
  of_legal not_false <| iteInduction (fun _ => .error (by decide) rfl not_false) fun _ =>
    .success not_false

/-- The length of `GHASH.UPDATE` is a named error, its bytes outside the operand are refused
(R101, R186). -/
theorem ghashUpdate_endsByTables (data : Bytes) (ofs len : Int) (s : State) :
    EndsByTables (.ghashUpdate data ofs len) s (execGhashUpdate data ofs len s) := by
  refine of_check Iff.rfl fun _ => ?_
  refine iteInduction (fun hlen => .error (by decide) rfl fun hrow => ?_) fun hlen => ?_
  · exact absurd ((wholeBlocks_iff len).mpr hrow.1) (by simp [hlen])
  · have hblocks := (wholeBlocks_iff len).mp (Bool.of_not_eq_false hlen)
    have hbounds := inOperand_eq_false_iff hblocks.1 data ofs
    exact iteInduction (fun hin => .refused ⟨hblocks, hbounds.mp hin⟩) fun hin =>
      .success fun hrow => hin (hbounds.mpr hrow.2)

theorem gctrInit_endsByTables (icb : Bytes) (s : State) :
    EndsByTables (.gctrInit icb) s (execGctrInit icb s) :=
  of_check Iff.rfl fun _ => iteInduction (fun _ => .error (by decide) rfl not_false) fun _ =>
    .success not_false

theorem gctrUpdate_endsByTables (input : Bytes) (len outCap : Int) (s : State) :
    EndsByTables (.gctrUpdate input len outCap) s (execGctrUpdate input len outCap s) :=
  of_check Iff.rfl fun _ => iteInduction (fun _ => .error (by decide) rfl not_false) fun _ =>
    of_withKey not_false fun _ => .success not_false

/-- Both size errors of `GCTR.DOFINAL` leave the counter at `ICB` (R122, R184). -/
theorem gctrDofinal_endsByTables (input : Bytes) (len outCap : Int) (s : State) :
    EndsByTables (.gctrDofinal input len outCap) s (execGctrDofinal input len outCap s) :=
  of_check Iff.rfl fun _ => iteInduction (fun _ => .error (by decide) rfl not_false) fun _ =>
    iteInduction (fun _ => .error (by decide) rfl not_false) fun _ =>
      of_withKey not_false fun _ => .success not_false

/-- `GCM.INIT` raises `InvalidKey` for an absent operand or a key the collaborator does not accept,
before it looks at the two ranges that refuse it (R140, R186). -/
theorem gcmInit_endsByTables (dec : Bool) (key iv : Option Bytes) (taglen : Nat) (s : State) :
    EndsByTables (.gcmInit dec key iv taglen) s (execGcmInit dec key iv taglen s) := by
  refine of_legal not_false ?_
  cases key with
  | none => exact .error (by decide) rfl not_false
  | some k =>
    cases iv with
    | none => exact .error (by decide) rfl not_false
    | some v =>
      refine iteInduction (fun hkey => .error (by decide) rfl fun hrow => ?_) fun hkey => ?_
      · exact Bool.false_ne_true (hkey.symm.trans hrow.1)
      · have hok : Config.keyOk k = true := Bool.of_not_eq_false hkey
        refine iteInduction (fun htag => .refused ⟨hok, or_assoc.mp (.inl htag)⟩) fun htag => ?_
        refine iteInduction (fun hiv => .refused ⟨hok, .inr (.inr hiv)⟩) fun hiv => ?_
        exact .success fun hrow => (or_assoc.mpr hrow.2).elim htag hiv

theorem gcmUpdateAad_endsByTables (data : Bytes) (ofs len : Int) (s : State) :
    EndsByTables (.gcmUpdateAad data ofs len) s (execGcmUpdateAad data ofs len s) := by
  have hbounds := inOperand_eq_false_iff_or data ofs len
  exact of_check Iff.rfl fun _ =>
    of_bufferChecks nonneg_of_inOperand (or_congr_left hbounds.symm) fun href => .success href

/-- A length that is no multiple of 16 is a named error of `GCM.ENCRYPT` and comes before
its refusals (R144, R186). -/
theorem gcmEncrypt_endsByTables (input : Bytes) (len outCap : Int) (s : State) :
    EndsByTables (.gcmEncrypt input len outCap) s (execGcmEncrypt input len outCap s) := by
  refine of_check (payloadLegal_eq_false_iff false s) fun _ => ?_
  refine iteInduction (fun hmod => .error (by decide) rfl fun hrow => hmod hrow.1) fun hmod => ?_
  have haligned : len % 16 = 0 := not_not.mp hmod
  have hbounds : inOperand input 0 len = false ∨ len > outCap ↔
      len < 0 ∨ len > input.length ∨ len > outCap := by
    rw [inOperand_zero_eq_false_iff, or_assoc]
  refine iteInduction (fun hin => .refused ⟨haligned, .inl (hbounds.mp hin)⟩) fun hin => ?_
  have hlimit := total_gt_iff (nonneg_of_inOperand (mt .inl hin)) s.proc maxLen
  refine iteInduction (fun hmax => .refused ⟨haligned, .inr (hlimit.mp hmax)⟩) fun hmax => ?_
  have href : ¬ refusedCase (.gcmEncrypt input len outCap) s := fun hrow =>
    hrow.2.elim (mt hbounds.mpr hin) (mt hlimit.mpr hmax)
  exact of_withKey href fun _ => .success href

/-- `GCM.ENCRYPT_FINAL` looks at the output capacity after its refusals (R145, R186). -/
theorem gcmEncryptFinal_endsByTables (input : Bytes) (len outCap : Int) (s : State) :
    EndsByTables (.gcmEncryptFinal input len outCap) s
      (execGcmEncryptFinal input len outCap s) := by
  refine of_check (payloadLegal_eq_false_iff false s) fun _ => ?_
  have hbounds := inOperand_zero_eq_false_iff input len
  refine iteInduction (fun hin => .refused (.inl (hbounds.mp hin))) fun hin => ?_
  have hlimit := total_gt_iff (nonneg_of_inOperand hin) s.proc maxLen
  refine iteInduction (fun hmax => .refused (.inr (hlimit.mp hmax))) fun hmax => ?_
  have href : ¬ refusedCase (.gcmEncryptFinal input len outCap) s := fun hrow =>
    hrow.elim (mt hbounds.mpr hin) (mt hlimit.mpr hmax)
  exact iteInduction (fun _ => .error (by decide) rfl href) fun _ =>
    of_withKey href fun _ => .success href

theorem gcmDecrypt_endsByTables (input : Bytes) (len outCap : Int) (s : State) :
    EndsByTables (.gcmDecrypt input len outCap) s (execGcmDecrypt input len outCap s) := by
  have hbounds := inOperand_zero_eq_false_iff input len
  exact of_check (payloadLegal_eq_false_iff true s) fun _ =>
    of_bufferChecks nonneg_of_inOperand (or_congr_left hbounds.symm) fun href => .success href

/-- The errors of `GCM.DECRYPT_FINAL` come after its refusals; the tag mismatch, the last of them,
leaves what success leaves (R147, R184, R186). -/
theorem gcmDecryptFinal_endsByTables (input : Bytes) (len outCap : Int) (s : State) :
    EndsByTables (.gcmDecryptFinal input len outCap) s
      (execGcmDecryptFinal input len outCap s) := by
  refine of_check (payloadLegal_eq_false_iff true s) fun hlegal => ?_
  have hbounds := inOperand_zero_eq_false_iff input len
  refine of_bufferChecks nonneg_of_inOperand (or_congr_left hbounds.symm) fun href => ?_
  have hkeeps {st : Status} {info : BitVec 8} (h : ¬ (st = .aeadBadTag ∧ info = 2)) :=
    (errorState_decryptFinal_of_not_mismatch h input len outCap s).symm
  refine iteInduction (fun _ => .error (by decide) (hkeeps (by decide)) href) fun _ => ?_
  refine iteInduction (fun _ => .error (by decide) (hkeeps (by decide)) href) fun _ => ?_
  refine of_withKey href fun k => iteInduction (fun _ => ?_) fun _ => .success href
  exact .error (by decide) (decryptFinalState_eq_errorState (phase_of_not_payloadIllegal hlegal) ..)
    href

/-- Every command ends as the tables of `60_exceptions.md` say; the ones without operands to check
are illegal in some states or in none, and otherwise succeed. -/
theorem exec_endsByTables (i : Instr) (s : State) : EndsByTables i s (exec i s) := by
  cases i with
  | ghashInit subkey => exact ghashInit_endsByTables subkey s
  | ghashUpdate data ofs len => exact ghashUpdate_endsByTables data ofs len s
  | ghashDigest => exact of_check_finish Iff.rfl not_false
  | ghashReset => exact of_check_finish Iff.rfl not_false
  | ghashSave => exact of_check_finish Iff.rfl not_false
  | ghashRestore => exact of_check_finish (ghashRestorable_eq_false_iff s) not_false
  | gctrInit icb => exact gctrInit_endsByTables icb s
  | gctrUpdate input len outCap => exact gctrUpdate_endsByTables input len outCap s
  | gctrDofinal input len outCap => exact gctrDofinal_endsByTables input len outCap s
  | gctrReset => exact of_check_finish Iff.rfl not_false
  | gctrSave => exact of_check_finish Iff.rfl not_false
  | gctrRestore => exact of_check_finish (gctrRestorable_eq_false_iff s) not_false
  | gcmInit dec key iv taglen => exact gcmInit_endsByTables dec key iv taglen s
  | gcmUpdateAad data ofs len => exact gcmUpdateAad_endsByTables data ofs len s
  | gcmEncrypt input len outCap => exact gcmEncrypt_endsByTables input len outCap s
  | gcmEncryptFinal input len outCap => exact gcmEncryptFinal_endsByTables input len outCap s
  | gcmDecrypt input len outCap => exact gcmDecrypt_endsByTables input len outCap s
  | gcmDecryptFinal input len outCap => exact gcmDecryptFinal_endsByTables input len outCap s
  | gcmReset => exact of_check_finish (gcmReady_eq_false_iff s) not_false
  | gcmSave => exact of_check_finish (gcmReady_eq_false_iff s) not_false
  | gcmRestore => exact of_check_finish (gcmRestorable_eq_false_iff_or s) not_false
  | gcmGetTagLength => exact of_legal not_false (.success not_false)
  | gcmGetBufferedLength => exact of_legal not_false (.success not_false)

/-! ## What an answer carries (R181, R188) -/

/-- An answer of `i` in `s`, with the state `t` it leaves: `OK` with `info` 0; `IllegalState` in a
case of its table; or a named error. Both errors carry nothing else and leave the state of R184. -/
inductive AnswersByTables (i : Instr) (s : State) : State → Response → Prop where
  | ok {n : Int} {out : Bytes} {t : State} : AnswersByTables i s t ⟨.ok, 0, n, out⟩
  | illegalState (h : illegalStateCause i s) :
      AnswersByTables i s (s.respond ⟨.illegalState, 0, 0, []⟩) ⟨.illegalState, 0, 0, []⟩
  | namedError {st : Status} {info : BitVec 8} (hst : IsNamedError st info) :
      AnswersByTables i s ((errorState i s st info).respond ⟨st, info, 0, []⟩) ⟨st, info, 0, []⟩

/-- Every answer of every command is of this form. -/
theorem exec_answersByTables (i : Instr) (s : State) :
    Answers (AnswersByTables i s) (exec i s) := by
  rcases exec_endsByTables i s with ⟨hi, ho⟩ | ⟨-, ho⟩
  · rw [ho]
    exact .of_raise (.illegalState hi)
  · generalize exec i s = o at ho
    cases ho with
    | refused h => exact .of_refuse _
    | error hst hu h =>
      subst hu
      exact .of_raise (.namedError hst)
    | success h => exact .of_finish .ok
    | fault h => rintro t r ⟨⟩

/-! ## The statements of the family -/

/-- Settles O42: the table's answer where a command is in the table, and otherwise no answer with
this status. -/
theorem illegalStateIsExactlyItsTable : Obligations.IllegalStateIsExactlyItsTable := by
  refine fun i s => ⟨fun hi => ?_, fun t r ht hr hst => ?_⟩
  · rcases exec_endsByTables i s with ⟨-, ho⟩ | ⟨hlegal, -⟩
    · exact ho
    · exact absurd hi hlegal
  · cases exec_answersByTables i s t r ht hr with
    | ok => cases hst
    | illegalState hi => exact hi
    | namedError hnamed =>
      obtain ⟨-, hne, -⟩ := hnamed
      exact absurd hst hne

/-- Settles O43: a command in a case of R182 answers an error; of the ways another may end, the
refusal alone is in a case of R186. -/
theorem refusalsAreExactlyTheirTable : Obligations.RefusalsAreExactlyTheirTable := by
  intro i s
  rcases exec_endsByTables i s with ⟨hi, ho⟩ | ⟨hlegal, ho⟩
  · rw [ho]
    exact iff_of_false (fun ⟨_, hq⟩ => nomatch hq) fun hrow => hrow.1 hi
  · rw [ho.refused_iff]
    exact (and_iff_right hlegal).symm

/-- Settles O44: by the form of the answer. -/
theorem errorResponsesCarryNothingElse : Obligations.ErrorResponsesCarryNothingElse := by
  intro i s t r ht hr
  cases exec_answersByTables i s t r ht hr with
  | ok => exact ⟨fun h => absurd rfl h, fun h => (nomatch h), fun _ => rfl⟩
  | illegalState hi => exact ⟨fun _ => ⟨rfl, rfl⟩, fun h => (nomatch h), fun _ => rfl⟩
  | namedError hst =>
    obtain ⟨-, -, hbadTag, hother⟩ := hst
    exact ⟨fun _ => ⟨rfl, rfl⟩, hbadTag, hother⟩

/-- An error answer leaves the registers of `errorState`, whichever error it is. -/
theorem exec_error_state {i : Instr} {s t : State} {r : Response} (ht : exec i s = .next t)
    (hr : t.response = some r) (hst : r.status ≠ .ok) :
    t = (errorState i s r.status r.info).respond r := by
  cases exec_answersByTables i s t r ht hr with
  | ok => exact absurd rfl hst
  | illegalState hi => rw [errorState_illegalState]
  | namedError hnamed => rfl

/-- Settles O45: the registers after an error are those of `errorState`, whose two exceptions are
the statement's. -/
theorem errorsChangeNothingButTwo : Obligations.ErrorsChangeNothingButTwo := by
  intro i s t r ht hr hst
  rw [exec_error_state ht hr hst]
  cases i with
  | gctrDofinal input len outCap => exact apply_ite (State.respond · r) ..
  | gcmDecryptFinal input len outCap => exact apply_ite (State.respond · r) ..
  | _ => rfl

end Sys2Proof.Safety

/-! PROOFS. The decoder and the encoder of `30_encoding.md` (R81 to R88). Encoding: the decoder of a
format gives back what the encoder of the format wrote, so a command's round trip is that of its row.
Decoding: what a row accepts is said format by format (`Accepts`), and every row of the map is of one
of the formats. -/

namespace Sys2Proof

/-! ## Operand slots (R85, R86) -/

theorem takeBytes_of_bytesOk {b : Bytes} (h : bytesOk b = true) : takeBytes b = .ok b :=
  if_pos h

/-- A byte string that is taken is in range, and it is taken as it is. -/
theorem takeBytes_ok {a b : Bytes} (h : takeBytes a = .ok b) : a = b ∧ bytesOk b = true := by
  unfold takeBytes at h
  split at h
  · next hok =>
    cases h
    exact ⟨rfl, hok⟩
  · cases h

theorem takeInput_ok {c : Command} {b : Bytes} (h : takeInput c = .ok b) :
    c.input = some b ∧ bytesOk b = true := by
  unfold takeInput at h
  split at h
  · next a ha =>
    obtain ⟨rfl, hok⟩ := takeBytes_ok h
    exact ⟨ha, hok⟩
  · cases h

/-- The operand `in` depends on its slot only. -/
theorem takeInput_congr {c d : Command} (h : c.input = d.input) : takeInput c = takeInput d := by
  rw [takeInput, takeInput, h]

theorem takeOptional_of_optBytesOk {b : Option Bytes} (h : optBytesOk b = true) :
    takeOptional b = .ok b := by
  cases b with
  | none => rfl
  | some a => rw [takeOptional, takeBytes_of_bytesOk h]

theorem takeOptional_ok {a b : Option Bytes} (h : takeOptional a = .ok b) :
    optBytesOk b = true := by
  unfold takeOptional at h
  split at h
  · cases h
    rfl
  · split at h
    · next htake =>
      cases h
      exact (takeBytes_ok htake).2
    · cases h

/-- A scalar in range survives its 32-bit slot (R85). -/
theorem toInt_encodeScalar {x : Int} (h : scalarOk x = true) : (encodeScalar x).toInt = x := by
  simp only [scalarOk, Bool.and_eq_true, decide_eq_true_eq] at h
  obtain ⟨hlow, hhigh⟩ := h
  exact BitVec.toInt_ofInt_eq_self (by decide) hlow hhigh

theorem scalarOk_toInt (x : BitVec 32) : scalarOk x.toInt = true := by
  simp only [scalarOk, Bool.and_eq_true, decide_eq_true_eq]
  exact ⟨x.le_toInt, x.toInt_lt⟩

/-! ## The fields `D` and `TL` of the word of `GCM.INIT` (R82) -/

theorem fieldD_commandWord (op : BitVec 8) (d : Bool) (tl : Nat) :
    fieldD (commandWord op d tl) = d := by
  cases d <;> simp [fieldD, commandWord]

theorem fieldTL_commandWord (op : BitVec 8) (d : Bool) {tl : Nat} (h : tagFieldOk tl = true) :
    fieldTL (commandWord op d tl) = tl := by
  have hlt : tl < 256 := of_decide_eq_true h
  have hfield : (commandWord op d tl).extractLsb' 16 8 = BitVec.ofNat 8 tl := by
    unfold commandWord
    generalize BitVec.ofNat 8 tl = b
    apply BitVec.eq_of_getLsbD_eq
    intro i hi
    interval_cases i <;> simp
  rw [fieldTL, hfield, BitVec.toNat_ofNat, Nat.mod_eq_of_lt hlt]

theorem tagFieldOk_fieldTL (cw : BitVec 32) : tagFieldOk (fieldTL cw) = true :=
  decide_eq_true (BitVec.isLt _)

theorem extractLsb'_eq_ofBool_fieldD (cw : BitVec 32) :
    cw.extractLsb' 8 1 = BitVec.ofBool (fieldD cw) := by
  apply BitVec.eq_of_getLsbD_eq
  intro i hi
  obtain rfl : i = 0 := by omega
  simp [fieldD]

/-- A word of `GCM.INIT` is its `OP`, `D` and `TL`, and nothing else (R82, R84). -/
theorem commandWord_fields {cw : BitVec 32} (h : cw &&& 0xFF00FEFF#32 = 0x30#32) :
    commandWord 0x30 (fieldD cw) (fieldTL cw) = cw := by
  obtain ⟨hop, hlow, hhigh⟩ := (and_initMask_eq_iff cw).mp h
  obtain ⟨hop', hlow', hhigh'⟩ :=
    (and_initMask_eq_iff _).mp (commandWord_init_matches (fieldD cw) (fieldTL cw))
  rw [word_eq_iff_fields, hop, hlow, hhigh, hop', hlow', hhigh', extractLsb'_eq_ofBool_fieldD,
    extractLsb'_eq_ofBool_fieldD, fieldD_commandWord]
  exact ⟨rfl, rfl, rfl,
    BitVec.eq_of_toNat_eq (fieldTL_commandWord 0x30 (fieldD cw) (tagFieldOk_fieldTL cw)), rfl⟩

/-! ## Encoding, format by format (R83) -/

theorem decode_of_selectRow {c : Command} {r : OpRow} (h : selectRow c.cw = some r) :
    decode c = r.operands c := by
  rw [decode, h]

/-- The decoder on the word of the operation `op` takes the operands as the format `fmt` says. -/
def OpHasFormat (op : BitVec 8) (fmt : Command → Except DecodeError Instr) : Prop :=
  (selectRow (commandWord op false 0)).map OpRow.operands = some fmt

theorem decode_of_opHasFormat {op : BitVec 8} {fmt : Command → Except DecodeError Instr}
    (h : OpHasFormat op fmt) {c : Command} (hc : c.cw = commandWord op false 0) :
    decode c = fmt c := by
  obtain ⟨r, hr, rfl⟩ := Option.map_eq_some_iff.mp h
  exact decode_of_selectRow (hc ▸ hr)

theorem decode_encodeN (op : BitVec 8) {i : Instr} (h : OpHasFormat op (formatN i)) :
    decode (encodeN op) = .ok i :=
  decode_of_opHasFormat h rfl

theorem decode_encodeB (op : BitVec 8) (f : Bytes → Instr) (h : OpHasFormat op (formatB f))
    {b : Bytes} (hb : bytesOk b = true) : decode (encodeB op b) = .ok (f b) := by
  rw [decode_of_opHasFormat h rfl, formatB, takeInput, encodeB]
  simp only [takeBytes_of_bytesOk hb]

theorem decode_encodeO (op : BitVec 8) (f : Bytes → Int → Int → Instr)
    (h : OpHasFormat op (formatO f)) {b : Bytes} {ofs len : Int}
    (hok : (bytesOk b && scalarOk ofs && scalarOk len) = true) :
    decode (encodeO op b ofs len) = .ok (f b ofs len) := by
  simp only [Bool.and_eq_true] at hok
  obtain ⟨⟨hb, hofs⟩, hlen⟩ := hok
  rw [decode_of_opHasFormat h rfl, formatO, takeInput, encodeO]
  simp only [takeBytes_of_bytesOk hb, toInt_encodeScalar hofs, toInt_encodeScalar hlen]

theorem decode_encodeX (op : BitVec 8) (f : Bytes → Int → Int → Instr)
    (h : OpHasFormat op (formatX f)) {b : Bytes} {len outCap : Int}
    (hok : (bytesOk b && scalarOk len && scalarOk outCap) = true) :
    decode (encodeX op b len outCap) = .ok (f b len outCap) := by
  simp only [Bool.and_eq_true] at hok
  obtain ⟨⟨hb, hlen⟩, hcap⟩ := hok
  rw [decode_of_opHasFormat h rfl, formatX, takeInput, encodeX]
  simp only [takeBytes_of_bytesOk hb, toInt_encodeScalar hlen, toInt_encodeScalar hcap]

/-- The one command of format `I`, whose word carries two of its operands. -/
theorem decode_encode_gcmInit {dec : Bool} {key iv : Option Bytes} {taglen : Nat}
    (hok : (optBytesOk key && optBytesOk iv && tagFieldOk taglen) = true) :
    decode (encode (.gcmInit dec key iv taglen)) = .ok (.gcmInit dec key iv taglen) := by
  simp only [Bool.and_eq_true] at hok
  obtain ⟨⟨hkey, hiv⟩, htag⟩ := hok
  rw [decode_of_selectRow (selectRow_init (commandWord_init_matches dec taglen))]
  simp only [formatI, encode, takeOptional_of_optBytesOk hkey, takeOptional_of_optBytesOk hiv,
    fieldD_commandWord, fieldTL_commandWord _ _ htag]

end Sys2Proof

namespace Sys2Proof.Safety

open Sys2Proof.Machine

/-- Settles O1: command by command, each by the round trip of its format; the row that a fixed word
selects is found by evaluation. -/
theorem decodeEncodeGivesTheCommandBack : Obligations.DecodeEncodeGivesTheCommandBack := by
  intro i hi
  cases i with
  | ghashInit subkey => exact decode_encodeB 0x10 .ghashInit rfl hi
  | ghashUpdate data ofs len => exact decode_encodeO 0x11 .ghashUpdate rfl hi
  | ghashDigest => exact decode_encodeN 0x12 rfl
  | ghashReset => exact decode_encodeN 0x13 rfl
  | ghashSave => exact decode_encodeN 0x14 rfl
  | ghashRestore => exact decode_encodeN 0x15 rfl
  | gctrInit icb => exact decode_encodeB 0x20 .gctrInit rfl hi
  | gctrUpdate input len outCap => exact decode_encodeX 0x21 .gctrUpdate rfl hi
  | gctrDofinal input len outCap => exact decode_encodeX 0x22 .gctrDofinal rfl hi
  | gctrReset => exact decode_encodeN 0x23 rfl
  | gctrSave => exact decode_encodeN 0x24 rfl
  | gctrRestore => exact decode_encodeN 0x25 rfl
  | gcmInit dec key iv taglen => exact decode_encode_gcmInit hi
  | gcmUpdateAad data ofs len => exact decode_encodeO 0x31 .gcmUpdateAad rfl hi
  | gcmEncrypt input len outCap => exact decode_encodeX 0x32 .gcmEncrypt rfl hi
  | gcmEncryptFinal input len outCap => exact decode_encodeX 0x33 .gcmEncryptFinal rfl hi
  | gcmDecrypt input len outCap => exact decode_encodeX 0x34 .gcmDecrypt rfl hi
  | gcmDecryptFinal input len outCap => exact decode_encodeX 0x35 .gcmDecryptFinal rfl hi
  | gcmReset => exact decode_encodeN 0x36 rfl
  | gcmSave => exact decode_encodeN 0x37 rfl
  | gcmRestore => exact decode_encodeN 0x38 rfl
  | gcmGetTagLength => exact decode_encodeN 0x39 rfl
  | gcmGetBufferedLength => exact decode_encodeN 0x3A rfl

/-! ## Decoding, row by row (R84) -/

/-- What it says of the record `c` that a row with the operation `fmt` decodes it to `i`: `i` is well
formed, its word is that of `c`, and the slots its format does not use were not looked at. -/
structure Accepts (fmt : Command → Except DecodeError Instr) (c : Command) (i : Instr) : Prop where
  wellFormed : i.wellFormed = true
  word : (encode i).cw = c.cw
  unusedSlots : ∀ d, agreeOnUsedSlots i c d → fmt d = .ok i

/-- The row `r` accepts in this sense whatever it decodes. -/
def RowAccepts (r : OpRow) : Prop :=
  ∀ (c : Command) (i : Instr), r.selects c.cw = true → r.operands c = .ok i →
    Accepts r.operands c i

/-- A row with a full mask is selected by its pattern only. -/
theorem eq_pattern_of_selects {name : String} {p cw : BitVec 32}
    {fmt : Command → Except DecodeError Instr}
    (h : OpRow.selects ⟨name, p, 0xFFFFFFFF#32, fmt⟩ cw = true) : cw = p := by
  have hall : cw &&& BitVec.allOnes 32 = p := eq_of_beq h
  rwa [BitVec.and_allOnes] at hall

/-- A row whose format takes `in` and reads other slots with `g`: such a row is sound when `g` builds
well-formed commands of its pattern and reads only slots that its commands use. -/
theorem rowAccepts_of_takeInput {name : String} {p : BitVec 32} (g : Bytes → Command → Instr)
    {fmt : Command → Except DecodeError Instr}
    (hfmt : ∀ c i, fmt c = .ok i ↔ ∃ b, takeInput c = .ok b ∧ i = g b c)
    (hwf : ∀ b c, bytesOk b = true → (g b c).wellFormed = true)
    (hword : ∀ b c, (encode (g b c)).cw = p)
    (hused : ∀ b c d, agreeOnUsedSlots (g b c) c d → c.input = d.input ∧ g b c = g b d) :
    RowAccepts ⟨name, p, 0xFFFFFFFF#32, fmt⟩ := by
  intro c i hsel hi
  obtain ⟨b, hb, rfl⟩ := (hfmt c i).mp hi
  refine ⟨hwf b c (takeInput_ok hb).2, (hword b c).trans (eq_pattern_of_selects hsel).symm,
    fun d hd => ?_⟩
  obtain ⟨hinput, hg⟩ := hused b c d hd
  exact (hfmt d _).mpr ⟨b, takeInput_congr hinput ▸ hb, hg⟩

theorem formatB_ok_iff (f : Bytes → Instr) (c : Command) (i : Instr) :
    formatB f c = .ok i ↔ ∃ b, takeInput c = .ok b ∧ i = f b := by
  unfold formatB
  cases takeInput c <;> simp [eq_comm]

theorem formatO_ok_iff (f : Bytes → Int → Int → Instr) (c : Command) (i : Instr) :
    formatO f c = .ok i ↔ ∃ b, takeInput c = .ok b ∧ i = f b c.ofs.toInt c.len.toInt := by
  unfold formatO
  cases takeInput c <;> simp [eq_comm]

theorem formatX_ok_iff (f : Bytes → Int → Int → Instr) (c : Command) (i : Instr) :
    formatX f c = .ok i ↔ ∃ b, takeInput c = .ok b ∧ i = f b c.len.toInt c.outCap.toInt := by
  unfold formatX
  cases takeInput c <;> simp [eq_comm]

theorem formatI_ok_iff (f : Bool → Option Bytes → Option Bytes → Nat → Instr) (c : Command)
    (i : Instr) :
    formatI f c = .ok i ↔ ∃ key iv, takeOptional c.input = .ok key ∧ takeOptional c.iv = .ok iv ∧
      i = f (fieldD c.cw) key iv (fieldTL c.cw) := by
  unfold formatI
  cases takeOptional c.input <;> cases takeOptional c.iv <;> simp [eq_comm]

section Rows

variable {name : String} {p : BitVec 32}

theorem rowAccepts_formatN {i : Instr} (hwf : i.wellFormed = true) (hword : (encode i).cw = p) :
    RowAccepts ⟨name, p, 0xFFFFFFFF#32, formatN i⟩ := by
  rintro c _ hsel ⟨⟩
  exact ⟨hwf, hword.trans (eq_pattern_of_selects hsel).symm, fun _ _ => rfl⟩

theorem rowAccepts_formatB {f : Bytes → Instr} (hwf : ∀ b, (f b).wellFormed = bytesOk b)
    (hword : ∀ b, (encode (f b)).cw = p)
    (hused : ∀ b c d, agreeOnUsedSlots (f b) c d → c.cw = d.cw ∧ c.input = d.input) :
    RowAccepts ⟨name, p, 0xFFFFFFFF#32, formatB f⟩ :=
  rowAccepts_of_takeInput (fun b _ => f b) (formatB_ok_iff f) (fun b _ hb => (hwf b).trans hb)
    (fun b _ => hword b) fun b c d hd => ⟨(hused b c d hd).2, rfl⟩

theorem rowAccepts_formatO {f : Bytes → Int → Int → Instr}
    (hwf : ∀ b x y, (f b x y).wellFormed = (bytesOk b && scalarOk x && scalarOk y))
    (hword : ∀ b x y, (encode (f b x y)).cw = p)
    (hused : ∀ b x y c d, agreeOnUsedSlots (f b x y) c d →
      c.cw = d.cw ∧ c.input = d.input ∧ c.ofs = d.ofs ∧ c.len = d.len) :
    RowAccepts ⟨name, p, 0xFFFFFFFF#32, formatO f⟩ := by
  refine rowAccepts_of_takeInput (fun b c => f b c.ofs.toInt c.len.toInt) (formatO_ok_iff f)
    (fun b c hb => ?_) (fun b c => hword b _ _) fun b c d hd => ?_
  · rw [hwf, hb, scalarOk_toInt, scalarOk_toInt]
    rfl
  · obtain ⟨-, hinput, hofs, hlen⟩ := hused b _ _ c d hd
    exact ⟨hinput, by rw [hofs, hlen]⟩

theorem rowAccepts_formatX {f : Bytes → Int → Int → Instr}
    (hwf : ∀ b x y, (f b x y).wellFormed = (bytesOk b && scalarOk x && scalarOk y))
    (hword : ∀ b x y, (encode (f b x y)).cw = p)
    (hused : ∀ b x y c d, agreeOnUsedSlots (f b x y) c d →
      c.cw = d.cw ∧ c.input = d.input ∧ c.len = d.len ∧ c.outCap = d.outCap) :
    RowAccepts ⟨name, p, 0xFFFFFFFF#32, formatX f⟩ := by
  refine rowAccepts_of_takeInput (fun b c => f b c.len.toInt c.outCap.toInt) (formatX_ok_iff f)
    (fun b c hb => ?_) (fun b c => hword b _ _) fun b c d hd => ?_
  · rw [hwf, hb, scalarOk_toInt, scalarOk_toInt]
    rfl
  · obtain ⟨-, hinput, hlen, hcap⟩ := hused b _ _ c d hd
    exact ⟨hinput, by rw [hlen, hcap]⟩

end Rows

/-- The row of `GCM.INIT`: its word carries `D` and `TL`, which the encoder writes back. -/
theorem rowAccepts_gcmInit :
    RowAccepts ⟨"GCM.INIT", 0x00000030#32, 0xFF00FEFF#32, formatI .gcmInit⟩ := by
  intro c i hsel hi
  obtain ⟨key, iv, hkey, hiv, rfl⟩ := (formatI_ok_iff _ c i).mp hi
  refine ⟨?_, commandWord_fields (eq_of_beq hsel), fun d hd => ?_⟩
  · simp only [Instr.wellFormed, takeOptional_ok hkey, takeOptional_ok hiv, tagFieldOk_fieldTL,
      Bool.and_self]
  · obtain ⟨hcw, hin, hslot⟩ := hd
    exact (formatI_ok_iff _ d _).mpr ⟨key, iv, hin ▸ hkey, hslot ▸ hiv, by rw [hcw]⟩

/-- Every row of the map decodes to well-formed commands of its own word (R84). -/
theorem opcodeMap_accepts : ∀ r ∈ opcodeMap, RowAccepts r := by
  simp only [opcodeMap, List.cons_append, List.nil_append, List.forall_mem_cons]
  exact ⟨
    rowAccepts_formatB (fun _ => rfl) (fun _ => rfl) (fun _ _ _ => id),
    rowAccepts_formatO (fun _ _ _ => rfl) (fun _ _ _ => rfl) (fun _ _ _ _ _ => id),
    rowAccepts_formatN rfl rfl, rowAccepts_formatN rfl rfl, rowAccepts_formatN rfl rfl,
    rowAccepts_formatN rfl rfl,
    rowAccepts_formatB (fun _ => rfl) (fun _ => rfl) (fun _ _ _ => id),
    rowAccepts_formatX (fun _ _ _ => rfl) (fun _ _ _ => rfl) (fun _ _ _ _ _ => id),
    rowAccepts_formatX (fun _ _ _ => rfl) (fun _ _ _ => rfl) (fun _ _ _ _ _ => id),
    rowAccepts_formatN rfl rfl, rowAccepts_formatN rfl rfl, rowAccepts_formatN rfl rfl,
    rowAccepts_gcmInit,
    rowAccepts_formatO (fun _ _ _ => rfl) (fun _ _ _ => rfl) (fun _ _ _ _ _ => id),
    rowAccepts_formatX (fun _ _ _ => rfl) (fun _ _ _ => rfl) (fun _ _ _ _ _ => id),
    rowAccepts_formatX (fun _ _ _ => rfl) (fun _ _ _ => rfl) (fun _ _ _ _ _ => id),
    rowAccepts_formatX (fun _ _ _ => rfl) (fun _ _ _ => rfl) (fun _ _ _ _ _ => id),
    rowAccepts_formatX (fun _ _ _ => rfl) (fun _ _ _ => rfl) (fun _ _ _ _ _ => id),
    rowAccepts_formatN rfl rfl, rowAccepts_formatN rfl rfl, rowAccepts_formatN rfl rfl,
    rowAccepts_formatN rfl rfl, rowAccepts_formatN rfl rfl, fun _ h => nomatch h⟩

/-- What decodes was accepted by the row its word selects. -/
theorem decode_ok {c : Command} {i : Instr} (h : decode c = .ok i) :
    ∃ r, selectRow c.cw = some r ∧ Accepts r.operands c i := by
  unfold decode at h
  split at h
  · next r hr =>
    have hsel := List.find?_some (p := fun r : OpRow => r.selects c.cw) hr
    exact ⟨r, hr, opcodeMap_accepts r (List.mem_of_find?_eq_some hr) c i hsel h⟩
  · cases h

/-- Whatever the format, the slots in use include the command word (R82). -/
theorem cw_eq_of_agreeOnUsedSlots {i : Instr} {c d : Command} (h : agreeOnUsedSlots i c d) :
    c.cw = d.cw := by
  cases i with
  | ghashInit _ | gctrInit _ | ghashUpdate _ _ _ | gcmUpdateAad _ _ _ | gctrUpdate _ _ _
  | gctrDofinal _ _ _ | gcmEncrypt _ _ _ | gcmEncryptFinal _ _ _ | gcmDecrypt _ _ _
  | gcmDecryptFinal _ _ _ | gcmInit _ _ _ _ => exact h.1
  | _ => exact h

/-- Settles O2: the row that decoded the record accepts it. -/
theorem decodedCommandsAreWellFormed : Obligations.DecodedCommandsAreWellFormed := by
  intro c i h
  obtain ⟨r, -, hacc⟩ := decode_ok h
  exact hacc.wellFormed

/-- Settles O3: the row that decoded the record accepts it. -/
theorem decodedWordIsItsEncoding : Obligations.DecodedWordIsItsEncoding := by
  intro c i h
  obtain ⟨r, -, hacc⟩ := decode_ok h
  exact hacc.word

/-- Settles O5: the two records select the same row, which reads only the slots in use. -/
theorem unusedSlotsAreIgnored : Obligations.UnusedSlotsAreIgnored := by
  intro c d i h hd
  obtain ⟨r, hr, hacc⟩ := decode_ok h
  rw [decode_of_selectRow (cw_eq_of_agreeOnUsedSlots hd ▸ hr)]
  exact hacc.unusedSlots d hd

/-- Settles O6: the eight records are run through the decoder. -/
theorem sampleWordsDecodeToTheirCommands : Obligations.SampleWordsDecodeToTheirCommands :=
  ⟨rfl, rfl, rfl, rfl, rfl, rfl, rfl, rfl⟩

end Sys2Proof.Safety

/-! PROOFS. The step (`20_memory.md` section 4, `60_exceptions.md` section 5) and the commands that can
succeed right after reset (`70_reset_and_hazards.md` section 2). -/

namespace Sys2Proof.Safety

open Sys2Proof.Machine

/-- Settles O7: a command at the port is run by the decoder's answer. -/
theorem stepRunsTheDecodedCommand : Obligations.StepRunsTheDecodedCommand := by
  intro s c rest i hport hi
  rw [step_command hport, runCommand, hi]
  rfl

/-- Settles O8: the step of an empty port. -/
theorem idleStepChangesNothing : Obligations.IdleStepChangesNothing := fun _ => step_nil

/-- With the stated reset values, every command that cannot succeed then is in a row of R182. -/
theorem illegalStateCause_of_statedResetValues {i : Instr} {s : State}
    (hi : succeedsAfterReset i = false) (hs : StatedResetValues s) : illegalStateCause i s := by
  have hclosed (d : Bool) : payloadIllegal d s := .inl (by simp [hs.phase])
  have hinit : s.phase ≠ .init := by simp [hs.phase]
  cases i with
  | ghashInit _ | gcmInit _ _ _ _ | gcmGetTagLength | gcmGetBufferedLength => cases hi
  | ghashUpdate _ _ _ | ghashDigest | ghashReset | ghashSave => exact hs.ghInit
  | ghashRestore => exact .inl hs.ghInit
  | gctrInit _ => exact hs.ck
  | gctrUpdate _ _ _ | gctrDofinal _ _ _ | gctrReset | gctrSave => exact hs.gcInit
  | gctrRestore => exact .inl hs.gcInit
  | gcmUpdateAad _ _ _ => exact hinit
  | gcmEncrypt _ _ _ | gcmEncryptFinal _ _ _ => exact hclosed false
  | gcmDecrypt _ _ _ | gcmDecryptFinal _ _ _ => exact hclosed true
  | gcmReset | gcmSave => exact hs.phase
  | gcmRestore => exact .inl hs.phase

/-- Settles O10: such a command is in a row of R182, so it answers `IllegalState` and changes
nothing. -/
theorem onlyInitsAndAccessorsSucceedAfterReset :
    Obligations.OnlyInitsAndAccessorsSucceedAfterReset :=
  ⟨fun i s hi hs =>
    (illegalStateIsExactlyItsTable i s).1 (illegalStateCause_of_statedResetValues hi hs),
    statedResetValues_reset []⟩

end Sys2Proof.Safety

/-! PROOFS. What a command can do to the registers, said once (`Effect`), and the invariant of
`10_state.md` section 6 derived from it: it holds after reset, every effect keeps it, and under it no
command needs an absent key. -/

namespace Sys2Proof.Machine

/-- `inc32` keeps the first 12 bytes (R10), however often it is applied. -/
theorem inc32_iterate_firstTwelve (n : Nat) (b : Block) :
    (inc32^[n] b).toNat / 2 ^ 32 = b.toNat / 2 ^ 32 := by
  induction n generalizing b with
  | zero => rfl
  | succ n ih => rw [Function.iterate_succ_apply, ih, inc32_firstTwelve]

end Sys2Proof.Machine

namespace Sys2Proof.Safety

open Sys2Proof.Machine

/-! ## The effect of a command on the registers -/

/-- The payload commands of the direction `dec` are legal (R155). -/
abbrev IsOpen (dec : Bool) (s : State) : Prop :=
  (s.phase = .init ∨ s.phase = .sealed) ∧ s.dec = dec

/-- A buffer of `n` bytes keeps within `MAXLEN` and its capacity (R186). -/
abbrev Fits (cap : Option Nat) (n : Nat) : Prop := n ≤ maxLen ∧ withinCap cap n = true

/-- The registers after a payload command: the associated data is sealed; the accumulator, the
counter, `PHASE`, `IBUF` and `PROC` are as given (R144 to R147). -/
def payloadState (z : Word × Word) (b : Block) (p : Phase) (w : Bytes) (n : Nat) (s : State) :
    State :=
  { s with
    s0 := z.1, s1 := z.2, ctr := b
    phase := p, aad := aadAfterSeal s, aadlen := aadlenAfterSeal s
    ibuf := w, proc := n }

/-- The registers a command leaves when it takes effect, from those of `s`, with what its checks have
established by then. -/
inductive Effect (s : State) : Instr → State → Prop where
  | ghashInit {k : Bytes} (h : Block) : Effect s (.ghashInit k) (s.loadSubkey h)
  | ghashUpdate {d : Bytes} {ofs len : Int} (z : Word × Word) :
      Effect s (.ghashUpdate d ofs len) (s.setAcc z)
  | ghashDigest : Effect s .ghashDigest s.clearAcc
  | ghashReset : Effect s .ghashReset s.clearAcc
  | ghashSave : Effect s .ghashSave s.saveAcc
  | ghashRestore : Effect s .ghashRestore s.restoreAcc
  | gctrInit {icb : Bytes} (b : Block) (hkey : s.ck ≠ none) :
      Effect s (.gctrInit icb) (s.loadCounter b)
  | gctrUpdate {d : Bytes} {len cap : Int} (n : Nat) :
      Effect s (.gctrUpdate d len cap) (s.setCtr (inc32^[n] s.ctr))
  | gctrDofinal {d : Bytes} {len cap : Int} : Effect s (.gctrDofinal d len cap) s.rewindCtr
  | gctrReset : Effect s .gctrReset s.resetCtr
  | gctrSave (hinit : s.gcInit = true) : Effect s .gctrSave s.saveCtr
  | gctrRestore (hsaved : gctrRestorable s = true) : Effect s .gctrRestore s.restoreCtr
  | gcmInit {dec : Bool} {key iv : Option Bytes} {t : Nat} (e : Block → Block) (k v : Bytes)
      (ht : 1 ≤ t ∧ t ≤ 16) : Effect s (.gcmInit dec key iv t) (s.startOperation e dec k v t)
  | gcmUpdateAad {d : Bytes} {ofs len : Int} (a : Bytes) (hphase : s.phase = .init)
      (hfits : Fits Config.aadCap (s.aad.length + a.length)) :
      Effect s (.gcmUpdateAad d ofs len) (s.appendAad a)
  | gcmEncrypt {d : Bytes} {len cap : Int} (z : Word × Word) (m n : Nat) (hopen : IsOpen false s)
      (hproc : s.proc + n ≤ maxLen) :
      Effect s (.gcmEncrypt d len cap)
        (payloadState z (inc32^[m] s.ctr) .sealed s.ibuf (s.proc + n) s)
  | gcmEncryptFinal {d : Bytes} {len cap : Int} (n : Nat) (hopen : IsOpen false s)
      (hproc : s.proc + n ≤ maxLen) :
      Effect s (.gcmEncryptFinal d len cap)
        (payloadState (0, 0) s.icb .final s.ibuf (s.proc + n) s)
  | gcmDecrypt {d : Bytes} {len cap : Int} (z : Word × Word) (w : Bytes) (hopen : IsOpen true s)
      (hfits : Fits Config.ibufCap (s.ibuf ++ w).length) :
      Effect s (.gcmDecrypt d len cap) (payloadState z s.ctr .sealed (s.ibuf ++ w) s.proc s)
  | gcmDecryptFinal {d : Bytes} {len cap : Int} (w : Bytes) (n : Nat) (hopen : IsOpen true s)
      (hfits : Fits Config.ibufCap (s.ibuf ++ w).length) (hn : n ≤ (s.ibuf ++ w).length) :
      Effect s (.gcmDecryptFinal d len cap)
        (payloadState (0, 0) s.icb .final (s.ibuf ++ w) (s.proc + n) s)
  | gcmReset (hready : s.phase ≠ .uninit) :
      Effect s .gcmReset s.resetCtr.clearAcc.resetBuffers
  | gcmSave (hready : s.phase ≠ .uninit) :
      Effect s .gcmSave s.saveOperation.saveCtr.saveAcc
  | gcmRestore (hsaved : gcmRestorable s = true) :
      Effect s .gcmRestore s.restoreOperation.restoreCtr.restoreAcc
  | gcmGetTagLength : Effect s .gcmGetTagLength s
  | gcmGetBufferedLength : Effect s .gcmGetBufferedLength s

/-- After an answer `r` of `i` in `s` the registers are those of `s`, or those of an effect. -/
def LeavesEffect (i : Instr) (s t : State) (r : Response) : Prop :=
  ∃ u, (u = s ∨ Effect s i u) ∧ t = u.respond r

namespace LeavesEffect

variable {i : Instr} {s u : State} {r : Response}

/-- An answer that leaves the registers. -/
theorem of_same : LeavesEffect i s (s.respond r) r := ⟨s, .inl rfl, rfl⟩

theorem of_effect (h : Effect s i u) : LeavesEffect i s (u.respond r) r := ⟨u, .inr h, rfl⟩

end LeavesEffect

open LeavesEffect

/-- An answer of a rule that is illegal in some states and otherwise succeeds, as most are. -/
theorem Answers.of_legal {i : Instr} {s u : State} {c : Prop} [Decidable c] {n : Int} {out : Bytes}
    (h : ¬ c → Effect s i u) :
    Answers (LeavesEffect i s) (if c then raise .illegalState 0 s else finish n out u) :=
  .of_ite (fun _ => .of_raise of_same) fun hc => .of_finish (of_effect (h hc))

/-- A buffer check of R186, passed. -/
theorem fits_of_checks {cap : Option Nat} {n : Nat} (hmax : ¬ n > maxLen)
    (hcap : ¬ withinCap cap n = false) : Fits cap n :=
  ⟨not_lt.mp hmax, Bool.of_not_eq_false hcap⟩

theorem ghashUpdate_effect (data : Bytes) (ofs len : Int) (s : State) :
    Answers (LeavesEffect (.ghashUpdate data ofs len) s) (exec (.ghashUpdate data ofs len) s) :=
  .of_ite (fun _ => .of_raise of_same) fun _ => .of_ite (fun _ => .of_raise of_same) fun _ =>
    .of_ite (fun _ => .of_refuse _) fun _ => .of_finish (of_effect (absorb_eq _ s ▸ .ghashUpdate _))

theorem gctrInit_effect (icb : Bytes) (s : State) :
    Answers (LeavesEffect (.gctrInit icb) s) (exec (.gctrInit icb) s) :=
  .of_ite (fun _ => .of_raise of_same) fun hkey => .of_ite (fun _ => .of_raise of_same) fun _ =>
    .of_finish (of_effect (.gctrInit _ hkey))

theorem gctrUpdate_effect (input : Bytes) (len outCap : Int) (s : State) :
    Answers (LeavesEffect (.gctrUpdate input len outCap) s)
      (exec (.gctrUpdate input len outCap) s) := by
  refine .of_ite (fun _ => .of_raise of_same) fun _ => .of_ite (fun _ => .of_raise of_same) fun _ =>
    .of_withKey fun k _ => .of_finish (of_effect ?_)
  rw [keystreamAdvance_eq, gctrFn_snd]
  exact .gctrUpdate _

/-- Both size errors of `GCTR.DOFINAL` leave the registers that success leaves (R122). -/
theorem gctrDofinal_effect (input : Bytes) (len outCap : Int) (s : State) :
    Answers (LeavesEffect (.gctrDofinal input len outCap) s)
      (exec (.gctrDofinal input len outCap) s) :=
  .of_ite (fun _ => .of_raise of_same) fun _ =>
    .of_ite (fun _ => .of_raise (of_effect .gctrDofinal)) fun _ =>
      .of_ite (fun _ => .of_raise (of_effect .gctrDofinal)) fun _ =>
        .of_withKey fun _ _ => .of_finish (of_effect .gctrDofinal)

theorem gcmInit_effect (dec : Bool) (key iv : Option Bytes) (taglen : Nat) (s : State) :
    Answers (LeavesEffect (.gcmInit dec key iv taglen) s) (exec (.gcmInit dec key iv taglen) s) := by
  cases key with
  | none => exact .of_raise of_same
  | some k =>
    cases iv with
    | none => exact .of_raise of_same
    | some v =>
      exact .of_ite (fun _ => .of_raise of_same) fun _ => .of_ite (fun _ => .of_refuse _) fun ht =>
        .of_ite (fun _ => .of_refuse _) fun _ =>
          .of_finish (of_effect (.gcmInit _ k v (by omega)))

theorem gcmUpdateAad_effect (data : Bytes) (ofs len : Int) (s : State) :
    Answers (LeavesEffect (.gcmUpdateAad data ofs len) s)
      (exec (.gcmUpdateAad data ofs len) s) := by
  refine .of_ite (fun _ => .of_raise of_same) fun hphase => .of_ite (fun _ => .of_refuse _) fun hin =>
    .of_ite (fun _ => .of_refuse _) fun hmax => .of_ite (fun _ => .of_refuse _) fun hcap =>
      .of_finish (of_effect (.gcmUpdateAad _ (not_not.mp hphase) ?_))
  rw [memRead_length (Bool.of_not_eq_false hin)]
  exact fits_of_checks hmax hcap

theorem isOpen_of_payloadLegal {dec : Bool} {s : State} (h : ¬ payloadLegal dec s = false) :
    IsOpen dec s :=
  (payloadLegal_iff dec s).mp (Bool.of_not_eq_false h)

theorem gcmEncrypt_effect (input : Bytes) (len outCap : Int) (s : State) :
    Answers (LeavesEffect (.gcmEncrypt input len outCap) s)
      (exec (.gcmEncrypt input len outCap) s) := by
  refine .of_ite (fun _ => .of_raise of_same) fun hlegal => .of_ite (fun _ => .of_raise of_same)
    fun _ => .of_ite (fun _ => .of_refuse _) fun hin => .of_ite (fun _ => .of_refuse _) fun hmax =>
      .of_withKey fun k _ => .of_finish (of_effect ?_)
  have hopen := isOpen_of_payloadLegal hlegal
  rw [afterEncrypt_eq hopen.1, gctrFn_snd,
    memRead_length (Bool.of_not_eq_false fun h => hin (.inl h))]
  exact .gcmEncrypt (_, _) _ _ hopen (not_lt.mp hmax)

theorem gcmEncryptFinal_effect (input : Bytes) (len outCap : Int) (s : State) :
    Answers (LeavesEffect (.gcmEncryptFinal input len outCap) s)
      (exec (.gcmEncryptFinal input len outCap) s) := by
  refine .of_ite (fun _ => .of_raise of_same) fun hlegal => .of_ite (fun _ => .of_refuse _) fun hin =>
    .of_ite (fun _ => .of_refuse _) fun hmax => .of_ite (fun _ => .of_raise of_same) fun _ =>
      .of_withKey fun k _ => .of_finish (of_effect ?_)
  have hopen := isOpen_of_payloadLegal hlegal
  rw [beforeEncryptTag_eq hopen.1, afterTag_eq, memRead_length (Bool.of_not_eq_false hin)]
  exact .gcmEncryptFinal _ hopen (not_lt.mp hmax)

theorem gcmDecrypt_effect (input : Bytes) (len outCap : Int) (s : State) :
    Answers (LeavesEffect (.gcmDecrypt input len outCap) s)
      (exec (.gcmDecrypt input len outCap) s) := by
  refine .of_ite (fun _ => .of_raise of_same) fun hlegal => .of_ite (fun _ => .of_refuse _) fun hin =>
    .of_ite (fun _ => .of_refuse _) fun hmax => .of_ite (fun _ => .of_refuse _) fun hcap =>
      .of_finish (of_effect ?_)
  have hopen := isOpen_of_payloadLegal hlegal
  rw [sealAad_eq hopen.1]
  refine .gcmDecrypt (_, _) _ hopen ?_
  rw [List.length_append, memRead_length (Bool.of_not_eq_false hin)]
  exact fits_of_checks hmax hcap

theorem gcmDecryptFinal_effect (input : Bytes) (len outCap : Int) (s : State) :
    Answers (LeavesEffect (.gcmDecryptFinal input len outCap) s)
      (exec (.gcmDecryptFinal input len outCap) s) := by
  refine .of_ite (fun _ => .of_raise of_same) fun hlegal => .of_ite (fun _ => .of_refuse _) fun hin =>
    .of_ite (fun _ => .of_refuse _) fun hmax => .of_ite (fun _ => .of_refuse _) fun hcap =>
      .of_ite (fun _ => .of_raise of_same) fun _ => .of_ite (fun _ => .of_raise of_same) fun _ =>
        .of_withKey fun k _ => ?_
  have hopen := isOpen_of_payloadLegal hlegal
  have hdone : Effect s (.gcmDecryptFinal input len outCap)
      ((afterTag (beforeDecryptTag (Config.encrypt k) (received (memRead input 0 len) s))).setPhase
        .final) := by
    rw [decryptFinalState_eq hopen.1, trueCiphertext_received hopen.1]
    refine .gcmDecryptFinal _ _ hopen ?_ (List.length_take_le' _ _)
    rw [List.length_append, memRead_length (Bool.of_not_eq_false hin)]
    exact fits_of_checks hmax hcap
  exact .of_ite (fun _ => .of_raise (of_effect hdone)) fun _ => .of_finish (of_effect hdone)

/-- Every answer of every command leaves the registers as they were or as its effect says. -/
theorem exec_effect (i : Instr) (s : State) : Answers (LeavesEffect i s) (exec i s) := by
  cases i with
  | ghashInit k =>
    exact .of_ite (fun _ => .of_raise of_same) fun _ => .of_finish (of_effect (.ghashInit _))
  | ghashUpdate data ofs len => exact ghashUpdate_effect data ofs len s
  | ghashDigest => exact .of_legal fun _ => .ghashDigest
  | ghashReset => exact .of_legal fun _ => .ghashReset
  | ghashSave => exact .of_legal fun _ => .ghashSave
  | ghashRestore => exact .of_legal fun _ => .ghashRestore
  | gctrInit icb => exact gctrInit_effect icb s
  | gctrUpdate input len outCap => exact gctrUpdate_effect input len outCap s
  | gctrDofinal input len outCap => exact gctrDofinal_effect input len outCap s
  | gctrReset => exact .of_legal fun _ => .gctrReset
  | gctrSave => exact .of_legal fun h => .gctrSave (Bool.of_not_eq_false h)
  | gctrRestore => exact .of_legal fun h => .gctrRestore (Bool.of_not_eq_false h)
  | gcmInit dec key iv taglen => exact gcmInit_effect dec key iv taglen s
  | gcmUpdateAad data ofs len => exact gcmUpdateAad_effect data ofs len s
  | gcmEncrypt input len outCap => exact gcmEncrypt_effect input len outCap s
  | gcmEncryptFinal input len outCap => exact gcmEncryptFinal_effect input len outCap s
  | gcmDecrypt input len outCap => exact gcmDecrypt_effect input len outCap s
  | gcmDecryptFinal input len outCap => exact gcmDecryptFinal_effect input len outCap s
  | gcmReset => exact .of_legal fun h => .gcmReset (mt (gcmReady_eq_false_iff s).mpr h)
  | gcmSave => exact .of_legal fun h => .gcmSave (mt (gcmReady_eq_false_iff s).mpr h)
  | gcmRestore => exact .of_legal fun h => .gcmRestore (Bool.of_not_eq_false h)
  | gcmGetTagLength => exact .of_finish (of_effect .gcmGetTagLength)
  | gcmGetBufferedLength => exact .of_finish (of_effect .gcmGetBufferedLength)

/-- A next state carries the response of its command (R80). -/
theorem exec_response {i : Instr} {s t : State} (h : exec i s = .next t) :
    ∃ r, t.response = some r := by
  rcases exec_endsByTables i s with ⟨-, ho⟩ | ⟨-, ho⟩
  · rw [ho] at h
    cases h
    exact ⟨_, rfl⟩
  · rw [h] at ho
    cases ho <;> exact ⟨_, rfl⟩

/-- What one command can do: respond in the registers as they were, or in those of its effect. -/
theorem exec_next {i : Instr} {s t : State} (h : exec i s = .next t) :
    ∃ u r, (u = s ∨ Effect s i u) ∧ t = u.respond r := by
  obtain ⟨r, hr⟩ := exec_response h
  obtain ⟨u, hu, ht⟩ := exec_effect i s t r h hr
  exact ⟨u, r, hu, ht⟩

end Sys2Proof.Safety

/-! PROOFS. The frames of the commands (`10_state.md` sections 2 to 5, `70_reset_and_hazards.md`
section 3), read off their effects. -/

namespace Sys2Proof.Safety

open Sys2Proof.Machine

/-! ## The registers an `INIT` fixes -/

theorem Effect.operation_kept {i : Instr} {s u : State} (h : Effect s i u)
    (hi : isGcmInit i = false) :
    u.ck = s.ck ∧ u.dec = s.dec ∧ u.taglen = s.taglen ∧ u.j0 = s.j0 := by
  cases h with
  | gcmInit _ _ _ _ => cases hi
  | _ => exact ⟨rfl, rfl, rfl, rfl⟩

theorem Effect.subkey_kept {i : Instr} {s u : State} (h : Effect s i u)
    (hgcm : isGcmInit i = false) (hghash : isGhashInit i = false) : u.h0 = s.h0 ∧ u.h1 = s.h1 := by
  cases h with
  | gcmInit _ _ _ _ => cases hgcm
  | ghashInit _ => cases hghash
  | _ => exact ⟨rfl, rfl⟩

theorem Effect.icb_kept {i : Instr} {s u : State} (h : Effect s i u)
    (hgcm : isGcmInit i = false) (hgctr : isGctrInit i = false) : u.icb = s.icb := by
  cases h with
  | gcmInit _ _ _ _ => cases hgcm
  | gctrInit _ _ => cases hgctr
  | _ => rfl

/-- No effect clears a presence bit (R25, R29). -/
theorem Effect.presence_kept {i : Instr} {s u : State} (h : Effect s i u) :
    (s.ghInit = true → u.ghInit = true) ∧ (s.gcInit = true → u.gcInit = true) := by
  cases h with
  | ghashInit _ => exact ⟨fun _ => rfl, id⟩
  | gctrInit _ _ => exact ⟨id, fun _ => rfl⟩
  | gcmInit _ _ _ _ => exact ⟨fun _ => rfl, fun _ => rfl⟩
  | _ => exact ⟨id, id⟩

/-- Settles O49: by the effect of the command, if it had one. -/
theorem onlyInitsWriteTheKeyRegisters : Obligations.OnlyInitsWriteTheKeyRegisters := by
  intro i s t ht
  obtain ⟨u, r, rfl | heff, rfl⟩ := exec_next ht
  · exact ⟨fun _ => ⟨rfl, rfl, rfl, rfl⟩, fun _ _ => ⟨rfl, rfl⟩, fun _ _ => rfl, id, id⟩
  · exact ⟨heff.operation_kept, heff.subkey_kept, heff.icb_kept, heff.presence_kept⟩

theorem Effect.of_ghash {i : Instr} {s u : State} (h : Effect s i u) (hi : isGhash i = true) :
    u = { s with
      ghInit := u.ghInit, h0 := u.h0, h1 := u.h1, s0 := u.s0, s1 := u.s1
      ghSv := u.ghSv, ss0 := u.ss0, ss1 := u.ss1 } := by
  cases h with
  | ghashInit _ | ghashUpdate _ | ghashDigest | ghashReset | ghashSave | ghashRestore => rfl
  | _ => cases hi

theorem Effect.of_gctr {i : Instr} {s u : State} (h : Effect s i u) (hi : isGctr i = true) :
    u = { s with
      gcInit := u.gcInit, icb := u.icb, ctr := u.ctr, gcSv := u.gcSv, ctrs := u.ctrs } := by
  cases h with
  | gctrInit _ _ | gctrUpdate _ | gctrDofinal | gctrReset | gctrSave _ | gctrRestore _ => rfl
  | _ => cases hi

theorem Effect.port_kept {i : Instr} {s u : State} (h : Effect s i u) : u.port = s.port := by
  cases h <;> rfl

/-! ## What a command does not look at (R69, R80) -/

/-- Apply `g` to the next state of an outcome, if it has one. -/
def onNext (g : State → State) : Result → Result
  | .next t => .next (g t)
  | .fault f => .fault f
  | .refused r => .refused r

/-- The state with other events still to come and, where `v` says so, another valid bit of the GCTR
snapshot. -/
def reattach (p : List PortEvent) (v : Option Bool) (s : State) : State :=
  { s with port := p, gcSv := v.getD s.gcSv }

/-- The same with another old response, as well. -/
def disturb (p : List PortEvent) (v : Option Bool) (o : Option Response) (s : State) : State :=
  { reattach p v s with response := o }

section Unread

variable {p : List PortEvent} {v : Option Bool} {o : Option Response} {s : State}

/-- A check that looks at none of the changed fields: the outcomes agree when they do on both sides
of it. -/
theorem onNext_ite {g : State → State} {c : Prop} [Decidable c] {x x' y y' : Result}
    (hx : x' = onNext g x) (hy : ¬ c → y' = onNext g y) :
    (if c then x' else y') = onNext g (if c then x else y) := by
  split
  · exact hx
  · next hc => exact hy hc

/-- A rule that uses the key, which is none of the changed fields. -/
theorem onNext_withKey {g : State → State} {f f' : Key → Result} (h : ∀ k, f' k = onNext g (f k)) :
    withKey (disturb p v o s) f' = onNext g (withKey s f) := by
  cases hck : s.ck with
  | none =>
    rw [withKey_none (s := disturb p v o s) hck, withKey_none hck]
    rfl
  | some k =>
    rw [withKey_some (s := disturb p v o s) hck, withKey_some hck]
    exact h k

theorem ghashUpdate_disturb (data : Bytes) (ofs len : Int) :
    exec (.ghashUpdate data ofs len) (disturb p v o s) =
      onNext (reattach p v) (exec (.ghashUpdate data ofs len) s) := by
  rw [exec_ghashUpdate, exec_ghashUpdate]
  exact onNext_ite rfl fun _ => onNext_ite rfl fun _ => onNext_ite rfl fun _ => rfl

theorem gcmInit_disturb (dec : Bool) (key iv : Option Bytes) (taglen : Nat) :
    exec (.gcmInit dec key iv taglen) (disturb p none o s) =
      onNext (reattach p none) (exec (.gcmInit dec key iv taglen) s) := by
  cases key with
  | none => rfl
  | some k =>
    cases iv with
    | none => rfl
    | some iv => exact onNext_ite rfl fun _ => onNext_ite rfl fun _ => onNext_ite rfl fun _ => rfl

theorem gcmEncrypt_disturb (input : Bytes) (len outCap : Int) :
    exec (.gcmEncrypt input len outCap) (disturb p v o s) =
      onNext (reattach p v) (exec (.gcmEncrypt input len outCap) s) := by
  refine onNext_ite rfl fun hlegal => onNext_ite rfl fun _ => onNext_ite rfl fun _ =>
    onNext_ite rfl fun _ => onNext_withKey fun k => ?_
  have hopen := (isOpen_of_payloadLegal hlegal).1
  rw [ciphertext_eq hopen, afterEncrypt_eq hopen, ciphertext_eq (s := s) hopen,
    afterEncrypt_eq (s := s) hopen]
  rfl

theorem gcmEncryptFinal_disturb (input : Bytes) (len outCap : Int) :
    exec (.gcmEncryptFinal input len outCap) (disturb p v o s) =
      onNext (reattach p v) (exec (.gcmEncryptFinal input len outCap) s) := by
  refine onNext_ite rfl fun hlegal => onNext_ite rfl fun _ => onNext_ite rfl fun _ =>
    onNext_ite rfl fun _ => onNext_withKey fun k => ?_
  have hopen := (isOpen_of_payloadLegal hlegal).1
  dsimp only
  rw [ciphertext_eq hopen, beforeEncryptTag_eq hopen, ciphertext_eq (s := s) hopen,
    beforeEncryptTag_eq (s := s) hopen]
  simp only [afterTag_eq, computeTag_eq]
  rfl

theorem gcmDecrypt_disturb (input : Bytes) (len outCap : Int) :
    exec (.gcmDecrypt input len outCap) (disturb p v o s) =
      onNext (reattach p v) (exec (.gcmDecrypt input len outCap) s) := by
  refine onNext_ite rfl fun hlegal => onNext_ite rfl fun _ => onNext_ite rfl fun _ =>
    onNext_ite rfl fun _ => ?_
  have hopen := (isOpen_of_payloadLegal hlegal).1
  rw [sealAad_eq hopen, sealAad_eq (s := s) hopen]
  rfl

theorem gcmDecryptFinal_disturb (input : Bytes) (len outCap : Int) :
    exec (.gcmDecryptFinal input len outCap) (disturb p v o s) =
      onNext (reattach p v) (exec (.gcmDecryptFinal input len outCap) s) := by
  refine onNext_ite rfl fun hlegal => onNext_ite rfl fun _ => onNext_ite rfl fun _ =>
    onNext_ite rfl fun _ => onNext_ite rfl fun _ => onNext_ite rfl fun _ =>
      onNext_withKey fun k => ?_
  have hopen := (isOpen_of_payloadLegal hlegal).1
  dsimp only
  rw [computeTag_beforeDecryptTag hopen, decryptFinalState_eq hopen, keystreamOut_received hopen,
    receivedTag_received hopen, trueCiphertext_received hopen,
    computeTag_beforeDecryptTag (s := s) hopen, decryptFinalState_eq (s := s) hopen,
    keystreamOut_received (s := s) hopen, receivedTag_received (s := s) hopen,
    trueCiphertext_received (s := s) hopen]
  exact onNext_ite rfl fun _ => rfl

/-- No command looks at the events still to come or at the old response, and the commands that feed an
operation do not look at the valid bit of the GCTR snapshot; what is written there stays. -/
theorem exec_disturb {i : Instr} (hv : v = none ∨ feedsOperation i = true) :
    exec i (disturb p v o s) = onNext (reattach p v) (exec i s) := by
  cases i with
  | gcmUpdateAad data ofs len =>
    exact onNext_ite rfl fun _ => onNext_ite rfl fun _ => onNext_ite rfl fun _ =>
      onNext_ite rfl fun _ => rfl
  | gcmEncrypt input len outCap => exact gcmEncrypt_disturb input len outCap
  | gcmEncryptFinal input len outCap => exact gcmEncryptFinal_disturb input len outCap
  | gcmDecrypt input len outCap => exact gcmDecrypt_disturb input len outCap
  | gcmDecryptFinal input len outCap => exact gcmDecryptFinal_disturb input len outCap
  | ghashUpdate data ofs len => exact ghashUpdate_disturb data ofs len
  | gcmGetTagLength | gcmGetBufferedLength => rfl
  | gcmInit dec key iv taglen =>
    obtain rfl : v = none := hv.resolve_right nofun
    exact gcmInit_disturb dec key iv taglen
  | gctrUpdate input len outCap =>
    exact onNext_ite rfl fun _ => onNext_ite rfl fun _ => onNext_withKey fun _ => rfl
  | gctrDofinal input len outCap =>
    exact onNext_ite rfl fun _ => onNext_ite rfl fun _ => onNext_ite rfl fun _ =>
      onNext_withKey fun _ => rfl
  | gctrInit icb =>
    obtain rfl : v = none := hv.resolve_right nofun
    exact onNext_ite rfl fun _ => onNext_ite rfl fun _ => rfl
  | ghashInit _ | ghashDigest | ghashReset | ghashSave | ghashRestore =>
    exact onNext_ite rfl fun _ => rfl
  | gctrReset | gctrSave | gctrRestore | gcmReset | gcmSave | gcmRestore =>
    obtain rfl : v = none := hv.resolve_right nofun
    exact onNext_ite rfl fun _ => rfl

end Unread

/-- Settles O50: the first clauses by the effect of the command, the last by what commands do not
look at. -/
theorem leafCommandsKeepToTheirUnit : Obligations.LeafCommandsKeepToTheirUnit := by
  refine ⟨fun i s t ht => ?_, fun i s events => ?_⟩
  · obtain ⟨u, r, rfl | heff, rfl⟩ := exec_next ht
    · exact ⟨fun _ => rfl, fun _ => rfl, rfl⟩
    · exact ⟨fun hi => congrArg (State.respond · r) (heff.of_ghash hi),
        fun hi => congrArg (State.respond · r) (heff.of_gctr hi), heff.port_kept⟩
  · refine (exec_disturb (p := events) (o := s.response) (s := s) (.inl rfl)).trans ?_
    cases exec i s <;> rfl

end Sys2Proof.Safety

/-! PROOFS. The invariant of `10_state.md` section 6 (R43): it holds after reset, the effect of every
command keeps it, and so does every step and every run; under it no command needs an absent key. -/

namespace Sys2Proof.Machine

/-- The counter keeps the first 12 bytes of the initial counter block, however far it advances. -/
theorem prefix12_inc32_iterate (n : Nat) (b : Block) :
    Safety.prefix12 (inc32^[n] b) = Safety.prefix12 b := by
  apply BitVec.eq_of_toNat_eq
  rw [Safety.prefix12, Safety.prefix12, BitVec.extractLsb'_toNat, BitVec.extractLsb'_toNat,
    Nat.shiftRight_eq_div_pow, Nat.shiftRight_eq_div_pow, inc32_iterate_firstTwelve]

end Sys2Proof.Machine

namespace Sys2Proof.Safety

open Sys2Proof.Machine

/-! ## Reset -/

/-- The values R44 states for reset meet every clause, whatever the other registers hold. -/
theorem inv_of_statedResetValues {s : State} (h : StatedResetValues s) : Inv s := by
  refine ⟨⟨?_, ?_, ?_, ?_, ?_, ?_, ?_, ?_, ?_, ?_⟩, ⟨?_, ?_, ?_, ?_, ?_, ?_⟩⟩ <;>
    simp [h.phase, h.gcInit, h.gcSv, h.gmSv, h.dec, h.taglen, h.aad, h.ibuf, h.aadlen, h.proc]

/-- Settles O51: reset gives the registers the values R44 states. -/
theorem resetMeetsTheInvariant : Obligations.ResetMeetsTheInvariant :=
  inv_of_statedResetValues (statedResetValues_reset [])

/-- An operation that takes payload has been started (R22). -/
theorem ne_uninit_of_open {s : State} (h : s.phase = .init ∨ s.phase = .sealed) :
    s.phase ≠ .uninit := by
  rcases h with hp | hp <;> simp [hp]

/-! ## Updates the invariant does not see, or sees in one clause -/

section Updates

variable {s : State} (h : Inv s)
include h

/-- The GHASH unit's registers and the ports are in no clause but (a), which has `GH_INIT`. -/
theorem inv_ghash {g : Bool} (hg : s.ghInit = true → g = true) (h0 h1 s0 s1 ss0 ss1 : Word)
    (sv : Bool) (p : List PortEvent) (o : Option Response) :
    Inv { s with
      ghInit := g, h0 := h0, h1 := h1, s0 := s0, s1 := s1, ghSv := sv, ss0 := ss0, ss1 := ss1
      port := p, response := o } := by
  obtain ⟨hr, hs⟩ := h
  refine ⟨{ hr with ready := fun hp => ?_ }, { hs with }⟩
  obtain ⟨hgh, hrest⟩ := hr.ready hp
  exact ⟨hg hgh, hrest⟩

theorem inv_respond (r : Response) : Inv (s.respond r) := inv_ghash h id ..

theorem inv_takeEvent (rest : List PortEvent) : Inv (s.takeEvent rest) := inv_ghash h id ..

/-- The counter and its snapshot are in clause (f) alone. -/
theorem inv_gctr {c c' : Block} {sv : Bool}
    (hc : s.gcInit = true → prefix12 c = prefix12 s.icb)
    (hc' : sv = true → prefix12 c' = prefix12 s.icb) :
    Inv { s with ctr := c, gcSv := sv, ctrs := c' } :=
  ⟨{ h.1 with counter := hc, savedCounter := hc' }, { h.2 with }⟩

/-- A new initial counter block comes with a counter and without a snapshot (R120). -/
theorem inv_loadCounter (hkey : s.ck ≠ none) (b : Block) : Inv (s.loadCounter b) := by
  refine ⟨{ h.1 with
    ready := fun hp => ?_, counter := fun _ => rfl, savedCounter := nofun,
    keyed := fun _ => hkey }, { h.2 with }⟩
  obtain ⟨hgh, -, hck⟩ := h.1.ready hp
  exact ⟨hgh, rfl, hck⟩

/-- Associated data is gathered in `INIT` only, within its limits (R141). -/
theorem inv_appendAad (hphase : s.phase = .init) {a : Bytes}
    (hfits : Fits Config.aadCap (s.aad.length + a.length)) : Inv (s.appendAad a) := by
  have hlen : (s.aad ++ a).length = s.aad.length + a.length := List.length_append
  obtain ⟨hmax, hcap⟩ := hlen ▸ hfits
  obtain ⟨-, hlimits⟩ := h.1.limits
  exact ⟨{ h.1 with
    aadOnlyInInit := fun hp => absurd hphase hp, limits := ⟨hmax, hlimits⟩,
    capacities := ⟨hcap, h.1.capacities.2⟩ }, { h.2 with }⟩

theorem aadAfterSeal_eq_nil : aadAfterSeal s = [] := by
  unfold aadAfterSeal
  split
  · rfl
  · next hp => exact h.1.aadOnlyInInit hp

theorem aadlenAfterSeal_le : aadlenAfterSeal s ≤ maxLen := by
  obtain ⟨haad, haadlen, -⟩ := h.1.limits
  unfold aadlenAfterSeal
  split
  · exact haad
  · exact haadlen

theorem fits_ibuf : Fits Config.ibufCap s.ibuf.length := by
  obtain ⟨-, -, -, hmax⟩ := h.1.limits
  exact ⟨hmax, h.1.capacities.2⟩

/-- While payload is legal the counter keeps the first 12 bytes of the initial counter block. -/
theorem counter_of_isOpen {dec : Bool} (hopen : IsOpen dec s) :
    prefix12 s.ctr = prefix12 s.icb := by
  obtain ⟨-, hgc, -⟩ := h.1.ready (ne_uninit_of_open hopen.1)
  exact h.1.counter hgc

/-- A payload command leaves the operation sealed or final, with its buffer and its count within their
limits (R144 to R147). -/
theorem inv_payloadState (hopen : s.phase = .init ∨ s.phase = .sealed) {b : Block} {p : Phase}
    {w : Bytes} {n : Nat} (z : Word × Word) (hp : p = .sealed ∨ p = .final)
    (hb : prefix12 b = prefix12 s.icb) (hw : s.dec = false → w = [])
    (hfits : Fits Config.ibufCap w.length) (hn : n ≤ maxLen)
    (hdec : s.dec = true → p = .sealed → n = 0) : Inv (payloadState z b p w n s) := by
  have hready := h.1.ready (ne_uninit_of_open hopen)
  have hnil := aadAfterSeal_eq_nil h
  have hleft : p ≠ .uninit ∧ p ≠ .init := by rcases hp with rfl | rfl <;> decide
  refine ⟨{ h.1 with
    ready := fun _ => hready, aadOnlyInInit := fun _ => hnil, ibufOnlyInDec := hw,
    limits := ⟨?_, aadlenAfterSeal_le h, hn, hfits.1⟩, capacities := ⟨?_, hfits.2⟩,
    counter := fun _ => hb, savedPhase := fun hsv => ⟨hleft.1, (h.1.savedPhase hsv).2⟩ },
    { h.2 with openDecryption := fun hd hph => hdec hd (hph.resolve_left hleft.2) }⟩
  · simp [payloadState, hnil]
  · simp [payloadState, hnil]

/-- `GCM.RESET` empties the buffers, of which `IBUF` is empty already when encrypting, and rewinds the
counter (R148). -/
theorem inv_gcmReset (hready : s.phase ≠ .uninit) :
    Inv s.resetCtr.clearAcc.resetBuffers := by
  have hibuf : (if s.dec = true then [] else s.ibuf) = [] := by
    split
    · rfl
    · next hdec => exact h.1.ibufOnlyInDec (Bool.of_not_eq_true hdec)
  have hfits : Fits Config.ibufCap (if s.dec = true then [] else s.ibuf).length := by
    rw [hibuf]
    exact ⟨Nat.zero_le _, withinCap_zero _⟩
  have hinit := h.1.ready hready
  exact ⟨{ h.1 with
    ready := fun _ => hinit, aadOnlyInInit := fun _ => rfl, ibufOnlyInDec := fun _ => hibuf,
    limits := ⟨Nat.zero_le _, Nat.zero_le _, Nat.zero_le _, hfits.1⟩,
    capacities := ⟨withinCap_zero _, hfits.2⟩, counter := fun _ => rfl, savedCounter := nofun,
    savedPhase := fun hsv => ⟨nofun, (h.1.savedPhase hsv).2⟩ },
    { h.2 with openDecryption := fun _ _ => rfl }⟩

/-- `GCM.SAVE` copies registers that meet the clauses (R149). -/
theorem inv_gcmSave (hready : s.phase ≠ .uninit) : Inv s.saveOperation.saveCtr.saveAcc := by
  obtain ⟨-, hgc, -⟩ := h.1.ready hready
  exact ⟨{ h.1 with
    savedCounter := fun _ => h.1.counter hgc, savedPhase := fun _ => ⟨hready, hready⟩ },
    { h.2 with
      savedAadOnlyInInit := fun _ => h.1.aadOnlyInInit
      savedIbufOnlyInDec := fun _ => h.1.ibufOnlyInDec
      savedLimits := fun _ => h.1.limits
      savedCapacities := fun _ => h.1.capacities
      savedOpenDecryption := fun _ => h.2.openDecryption }⟩

/-- `GCM.RESTORE` brings back registers that met the clauses when they were saved (R150). -/
theorem inv_gcmRestore (hsaved : gcmRestorable s = true) :
    Inv s.restoreOperation.restoreCtr.restoreAcc := by
  obtain ⟨hready, hgm, hgc, -⟩ := (gcmRestorable_iff s).mp hsaved
  exact ⟨{ h.1 with
    ready := fun _ => h.1.ready hready
    aadOnlyInInit := h.2.savedAadOnlyInInit hgm
    ibufOnlyInDec := h.2.savedIbufOnlyInDec hgm
    limits := h.2.savedLimits hgm
    capacities := h.2.savedCapacities hgm
    counter := fun _ => h.1.savedCounter hgc
    savedPhase := fun _ => ⟨(h.1.savedPhase hgm).2, (h.1.savedPhase hgm).2⟩ },
    { h.2 with openDecryption := h.2.savedOpenDecryption hgm }⟩

end Updates

/-- `GCM.INIT` makes the clauses hold from any state: it keys the collaborator, gives every buffer and
counter its first value, and leaves no snapshot valid (R140). -/
theorem inv_startOperation (s : State) (e : Block → Block) (dec : Bool) (k v : Bytes) {t : Nat}
    (ht : 1 ≤ t ∧ t ≤ 16) : Inv (s.startOperation e dec k v t) := by
  refine ⟨⟨?_, ?_, ?_, ?_, ?_, ?_, ?_, ?_, ?_, ?_⟩, ⟨?_, ?_, ?_, ?_, ?_, ?_⟩⟩ <;>
    simp [State.startOperation, ht]

/-- The effect of every command keeps the invariant. -/
theorem Effect.inv {i : Instr} {s u : State} (heff : Effect s i u) (h : Inv s) : Inv u := by
  cases heff with
  | ghashInit _ => exact inv_ghash h (fun _ => rfl) ..
  | ghashUpdate _ | ghashDigest | ghashReset | ghashSave | ghashRestore => exact inv_ghash h id ..
  | gctrInit b hkey => exact inv_loadCounter h hkey b
  | gctrUpdate n =>
    exact inv_gctr h (fun hgc => (prefix12_inc32_iterate n s.ctr).trans (h.1.counter hgc))
      h.1.savedCounter
  | gctrDofinal => exact inv_gctr h (fun _ => rfl) h.1.savedCounter
  | gctrReset => exact inv_gctr h (fun _ => rfl) nofun
  | gctrSave hinit => exact inv_gctr h h.1.counter fun _ => h.1.counter hinit
  | gctrRestore hsaved =>
    obtain ⟨-, hgc⟩ := (gctrRestorable_iff s).mp hsaved
    exact inv_gctr h (fun _ => h.1.savedCounter hgc) h.1.savedCounter
  | gcmInit e k v ht => exact inv_startOperation s e _ k v ht
  | gcmUpdateAad a hphase hfits => exact inv_appendAad h hphase hfits
  | gcmEncrypt z m n hopen hproc =>
    have hctr := (prefix12_inc32_iterate m s.ctr).trans (counter_of_isOpen h hopen)
    exact inv_payloadState h hopen.1 z (.inl rfl) hctr h.1.ibufOnlyInDec (fits_ibuf h) hproc
      fun hdec => absurd (hopen.2.symm.trans hdec) nofun
  | gcmEncryptFinal n hopen hproc =>
    exact inv_payloadState h hopen.1 _ (.inr rfl) rfl h.1.ibufOnlyInDec (fits_ibuf h) hproc
      fun _ => nofun
  | gcmDecrypt z w hopen hfits =>
    have hproc : s.proc = 0 := h.2.openDecryption hopen.2 hopen.1
    exact inv_payloadState h hopen.1 z (.inl rfl) (counter_of_isOpen h hopen)
      (fun hdec => absurd (hopen.2.symm.trans hdec) nofun) hfits (by simp [hproc]) fun _ _ => hproc
  | gcmDecryptFinal w n hopen hfits hn =>
    have hproc : s.proc + n ≤ maxLen := by
      rw [h.2.openDecryption hopen.2 hopen.1, Nat.zero_add]
      exact hn.trans hfits.1
    exact inv_payloadState h hopen.1 _ (.inr rfl) rfl
      (fun hdec => absurd (hopen.2.symm.trans hdec) nofun) hfits hproc fun _ => nofun
  | gcmReset hready => exact inv_gcmReset h hready
  | gcmSave hready => exact inv_gcmSave h hready
  | gcmRestore hsaved => exact inv_gcmRestore h hsaved
  | gcmGetTagLength => exact h
  | gcmGetBufferedLength => exact h

/-! ## Steps and runs -/

/-- A command keeps the invariant whatever it answers. -/
theorem exec_inv {i : Instr} {s t : State} (h : Inv s) (ht : exec i s = .next t) : Inv t := by
  obtain ⟨u, r, rfl | heff, rfl⟩ := exec_next ht
  · exact inv_respond h r
  · exact inv_respond (heff.inv h) r

/-- Settles O52: by the event at the port; a command keeps the invariant by its effect. -/
theorem stepKeepsTheInvariant : Obligations.StepKeepsTheInvariant := by
  intro s t h ht
  cases hport : s.port with
  | nil =>
    rw [step_nil hport] at ht
    exact Host.Outcome.next.inj ht ▸ h
  | cons event rest =>
    have htaken := inv_takeEvent h rest
    cases event with
    | command c =>
      rw [step_command hport] at ht
      rcases runCommand_next ht with ⟨i, -, hi⟩ | ⟨-, rfl⟩
      · exact exec_inv htaken hi
      · exact inv_respond htaken _
    | hardwareReset =>
      rw [step_hardwareReset hport] at ht
      exact Host.Outcome.next.inj ht ▸ inv_of_statedResetValues (statedResetValues_reset rest)

/-- Settles O53: the invariant holds after reset, whatever is at the port, and every run keeps it. -/
theorem reachableStatesMeetR43 : Obligations.ReachableStatesMeetR43 := by
  intro events n t hrun
  have hreset : Inv { State.reset with port := events } :=
    inv_of_statedResetValues (statedResetValues_reset events)
  exact (Laws.run_keeps (M := core) stepKeepsTheInvariant n _ t hreset hrun).1

/-! ## No fault (R92, log 11) -/

/-- The outcome is a fault only if `P`. -/
def FaultsOnlyIf (P : Prop) (o : Result) : Prop := ∀ f, o = .fault f → P

namespace FaultsOnlyIf

variable {P : Prop} {o : Result}

theorem of_raise {st : Status} {info : BitVec 8} {s : State} :
    FaultsOnlyIf P (raise st info s) := nofun

theorem of_finish {n : Int} {out : Bytes} {s : State} : FaultsOnlyIf P (finish n out s) := nofun

theorem of_refuse {q : Refusal} : FaultsOnlyIf P (refuse q) := nofun

/-- A check does not fault: what remains is the rest of the rule. -/
theorem of_check {c : Prop} [Decidable c] {x : Result} (hx : FaultsOnlyIf P x)
    (ho : ¬ c → FaultsOnlyIf P o) : FaultsOnlyIf P (if c then x else o) := by
  split
  · exact hx
  · next hc => exact ho hc

/-- A rule that uses the key faults when there is none (R92). -/
theorem of_withKey {s : State} {f : Key → Result} (hP : s.ck = none → P)
    (hf : ∀ k, FaultsOnlyIf P (f k)) : FaultsOnlyIf P (withKey s f) := by
  cases hck : s.ck with
  | none => exact fun _ _ => hP hck
  | some k =>
    rw [withKey_some hck]
    exact hf k

/-- A rule that is illegal in some states and otherwise succeeds. -/
theorem of_legal {c : Prop} [Decidable c] {s u : State} {n : Int} {out : Bytes} :
    FaultsOnlyIf P (if c then raise .illegalState 0 s else finish n out u) :=
  of_check of_raise fun _ => of_finish

end FaultsOnlyIf

/-- A key is wanted and there is none: the counter is initialised, or an operation is. -/
abbrev LacksKey (s : State) : Prop := (s.gcInit = true ∨ s.phase ≠ .uninit) ∧ s.ck = none

open FaultsOnlyIf in
/-- The model's one fault, whatever the command. -/
theorem exec_faultsOnlyIf (i : Instr) (s : State) : FaultsOnlyIf (LacksKey s) (exec i s) := by
  have hgctr (h : ¬ s.gcInit = false) (hck : s.ck = none) : LacksKey s :=
    ⟨.inl (Bool.of_not_eq_false h), hck⟩
  have hgcm {d : Bool} (h : ¬ payloadLegal d s = false) (hck : s.ck = none) : LacksKey s :=
    ⟨.inr (ne_uninit_of_open (isOpen_of_payloadLegal h).1), hck⟩
  cases i with
  | ghashInit _ => exact of_check of_raise fun _ => of_finish
  | ghashUpdate _ _ _ =>
    exact of_check of_raise fun _ => of_check of_raise fun _ => of_check of_refuse fun _ => of_finish
  | gctrInit _ => exact of_check of_raise fun _ => of_check of_raise fun _ => of_finish
  | gctrUpdate _ _ _ =>
    exact of_check of_raise fun h => of_check of_raise fun _ =>
      of_withKey (hgctr h) fun _ => of_finish
  | gctrDofinal _ _ _ =>
    exact of_check of_raise fun h => of_check of_raise fun _ => of_check of_raise fun _ =>
      of_withKey (hgctr h) fun _ => of_finish
  | gcmInit _ key iv _ =>
    cases key with
    | none => exact of_raise
    | some k =>
      cases iv with
      | none => exact of_raise
      | some v =>
        exact of_check of_raise fun _ => of_check of_refuse fun _ => of_check of_refuse fun _ =>
          of_finish
  | gcmUpdateAad _ _ _ =>
    exact of_check of_raise fun _ => of_check of_refuse fun _ => of_check of_refuse fun _ =>
      of_check of_refuse fun _ => of_finish
  | gcmEncrypt _ _ _ =>
    exact of_check of_raise fun h => of_check of_raise fun _ => of_check of_refuse fun _ =>
      of_check of_refuse fun _ => of_withKey (hgcm h) fun _ => of_finish
  | gcmEncryptFinal _ _ _ =>
    exact of_check of_raise fun h => of_check of_refuse fun _ => of_check of_refuse fun _ =>
      of_check of_raise fun _ => of_withKey (hgcm h) fun _ => of_finish
  | gcmDecrypt _ _ _ =>
    exact of_check of_raise fun _ => of_check of_refuse fun _ => of_check of_refuse fun _ =>
      of_check of_refuse fun _ => of_finish
  | gcmDecryptFinal _ _ _ =>
    exact of_check of_raise fun h => of_check of_refuse fun _ => of_check of_refuse fun _ =>
      of_check of_refuse fun _ => of_check of_raise fun _ => of_check of_raise fun _ =>
        of_withKey (hgcm h) fun _ => of_check of_raise fun _ => of_finish
  | ghashDigest | ghashReset | ghashSave | ghashRestore | gctrReset | gctrSave | gctrRestore
  | gcmReset | gcmSave | gcmRestore => exact of_legal
  | gcmGetTagLength | gcmGetBufferedLength => exact of_finish

/-- Clauses (a) and (g) leave no key wanted that is not there. -/
theorem not_lacksKey {s : State} (h : Inv s) : ¬ LacksKey s := by
  rintro ⟨hgc | hready, hck⟩
  · exact h.1.keyed hgc hck
  · obtain ⟨-, -, hkey⟩ := h.1.ready hready
    exact hkey hck

/-- A command faults only by its meaning. -/
theorem runCommand_ne_fault {s : State} (h : Inv s) (c : Command) (f : Fault) :
    runCommand c s ≠ .fault f := by
  intro hf
  unfold runCommand at hf
  split at hf
  · exact not_lacksKey h (exec_faultsOnlyIf _ s f hf)
  all_goals cases hf

/-- Settles O54: only a command can fault, and only for want of a key. -/
theorem invariantStatesNeverFault : Obligations.InvariantStatesNeverFault := by
  intro s f h hf
  cases hport : s.port with
  | nil =>
    rw [step_nil hport] at hf
    cases hf
  | cons event rest =>
    cases event with
    | command c =>
      rw [step_command hport] at hf
      exact runCommand_ne_fault (inv_takeEvent h rest) c f hf
    | hardwareReset =>
      rw [step_hardwareReset hport] at hf
      cases hf

end Sys2Proof.Safety

/-! PROOFS. The pure functions of `00_scope.md` section 5 without the product: the period of the
counter, the length block, and the keystream function applied to its own output. -/

namespace Sys2Proof.Machine

/-! ## The period of `inc32` (R10) -/

theorem inc32_iterate_counter (n : Nat) (b : Block) :
    (inc32^[n] b).toNat % 2 ^ 32 = (b.toNat + n) % 2 ^ 32 := by
  induction n generalizing b with
  | zero => rfl
  | succ n ih =>
    have h := inc32_counter b
    rw [Function.iterate_succ_apply, ih]
    omega

/-! ## The length block (R15) -/

/-- Up to `MAXLEN` the bit length fits its 32-bit field. -/
theorem beBytes_eight_bitLength {n : Nat} (h : n ≤ maxLen) :
    beBytes 8 (8 * n) = List.replicate 4 0#8 ++ be32Bytes (8 * n) := by
  have hmax : maxLen = 536870911 := rfl
  have hhigh : 8 * n / 256 ^ 4 = 0 := Nat.div_eq_of_lt (by omega)
  have hzeros : beBytes 4 0 = List.replicate 4 0#8 := by decide
  rw [beBytes_append 4 4, hhigh, hzeros, be32Bytes]

/-! ## `gctr_fn` undoes itself (R14) -/

theorem gctrFn_nil (e : Block → Block) (cb : Block) : gctrFn e cb [] = ([], cb) := rfl

theorem gctrFn_cons (e : Block → Block) (cb : Block) {d : Bytes} (h : d ≠ []) :
    (gctrFn e cb d).1 =
      xorBytes (d.take 16) (bytesOfBlock (e cb)) ++ (gctrFn e (inc32 cb) (d.drop 16)).1 := by
  rw [gctrFn, chunks_cons h]
  rfl

/-- The same bytes xored twice are gone, where they reach as far as the data. -/
theorem xorBytes_xorBytes {x y : Bytes} (h : x.length ≤ y.length) :
    xorBytes (xorBytes x y) y = x := by
  induction x generalizing y with
  | nil => rfl
  | cons a x ih =>
    cases y with
    | nil => simp at h
    | cons b y =>
      have htail := ih (Nat.le_of_succ_le_succ h)
      simp only [xorBytes, List.zipWith_cons_cons] at htail ⊢
      rw [htail, BitVec.xor_assoc, BitVec.xor_self, BitVec.xor_zero]

/-- The output of the first block is the first 16 bytes of the output, whether the data goes on behind
it or not. -/
theorem gctrFn_fst_take_drop (e : Block → Block) (cb : Block) {d : Bytes} (h : d ≠ []) :
    (gctrFn e cb d).1.take 16 = xorBytes (d.take 16) (bytesOfBlock (e cb)) ∧
      (gctrFn e cb d).1.drop 16 = (gctrFn e (inc32 cb) (d.drop 16)).1 := by
  have hfirst : (xorBytes (d.take 16) (bytesOfBlock (e cb))).length = min 16 d.length := by
    rw [xorBytes_bytesOfBlock_length (List.length_take_le 16 d), List.length_take]
  rw [gctrFn_cons e cb h]
  by_cases hlong : 16 ≤ d.length
  · rw [Nat.min_eq_left hlong] at hfirst
    exact ⟨List.take_left' hfirst, List.drop_left' hfirst⟩
  · have hrest : d.drop 16 = [] := List.drop_eq_nil_of_le (by omega)
    have hshort : (xorBytes (d.take 16) (bytesOfBlock (e cb))).length ≤ 16 := by omega
    rw [hrest, gctrFn_nil, List.append_nil]
    exact ⟨List.take_of_length_le hshort, List.drop_eq_nil_of_le hshort⟩

theorem gctrFn_gctrFn (e : Block → Block) (cb : Block) (d : Bytes) :
    (gctrFn e cb (gctrFn e cb d).1).1 = d := by
  induction hn : d.length using Nat.strong_induction_on generalizing d cb with
  | _ n ih =>
    by_cases h : d = []
    · rw [h, gctrFn_nil, gctrFn_nil]
    · have hpos : 0 < d.length := List.length_pos_iff.mpr h
      have hout : (gctrFn e cb d).1 ≠ [] := by
        rw [← List.length_pos_iff, gctrFn_fst_length]
        exact hpos
      have hkey : (d.take 16).length ≤ (bytesOfBlock (e cb)).length := by
        rw [bytesOfBlock_length]
        exact List.length_take_le 16 d
      obtain ⟨htake, hdrop⟩ := gctrFn_fst_take_drop e cb h
      rw [gctrFn_cons e cb hout, htake, hdrop, xorBytes_xorBytes hkey,
        ih _ (by rw [List.length_drop]; omega) (inc32 cb) (d.drop 16) rfl, List.take_append_drop]

end Sys2Proof.Machine

namespace Sys2Proof.Safety

open Sys2Proof.Machine

/-- Settles O12: the first 12 bytes never change, and the counter field is back when `n` is 0 modulo
its size. -/
theorem inc32HasPeriodTwoToThe32 : Obligations.Inc32HasPeriodTwoToThe32 := by
  intro b n
  have hfirst := inc32_iterate_firstTwelve n b
  have hcounter := inc32_iterate_counter n b
  rw [← BitVec.toNat_inj]
  omega

/-- Settles O16: by the lemmas on the length, the counter and the second application. -/
theorem gctrFnIsALengthPreservingInvolution : Obligations.GctrFnIsALengthPreservingInvolution :=
  fun e cb d => ⟨gctrFn_fst_length e cb d, gctrFn_snd e cb d, rfl, gctrFn_gctrFn e cb d⟩

/-- Settles O17: each half of the block is a bit length that fits its field. -/
theorem lenBlockIsTheTwo64BitLengths : Obligations.LenBlockIsTheTwo64BitLengths := by
  intro a c ha hc
  rw [beBytes_eight_bitLength ha, beBytes_eight_bitLength hc, lenBlock]
  simp only [List.append_assoc]

end Sys2Proof.Safety

/-! PROOFS. The product of GF(2^128) (R12). It is read as a sum over the bits of the first factor, of
the second factor multiplied by `x` as often as the bit's place says. Its laws follow from the
linearity of that sum, and commutativity from writing both factors as sums of powers of `x` and
exchanging the two sums. -/

namespace Sys2Proof.Machine

/-! ## Sums of blocks -/

/-- The sum over xor of the first `n` blocks of a sequence. -/
def xorSum : Nat → (Nat → Block) → Block
  | 0, _ => 0#128
  | n + 1, f => f 0 ^^^ xorSum n fun j => f (j + 1)

theorem xorSum_congr {n : Nat} {f g : Nat → Block} (h : ∀ j < n, f j = g j) :
    xorSum n f = xorSum n g := by
  induction n generalizing f g with
  | zero => rfl
  | succ n ih => rw [xorSum, xorSum, h 0 (by omega), ih fun j hj => h (j + 1) (by omega)]

theorem xorSum_zero (n : Nat) : xorSum n (fun _ => 0#128) = 0#128 := by
  induction n with
  | zero => rfl
  | succ n ih => rw [xorSum, ih, BitVec.xor_self]

theorem xorSum_xor (n : Nat) (f g : Nat → Block) :
    xorSum n (fun j => f j ^^^ g j) = xorSum n f ^^^ xorSum n g := by
  induction n generalizing f g with
  | zero => exact (BitVec.xor_self (x := 0#128)).symm
  | succ n ih =>
    rw [xorSum, xorSum, xorSum, ih]
    ac_rfl

/-- A function that is linear over xor goes into a sum. -/
theorem map_xorSum {φ : Block → Block} (hzero : φ 0#128 = 0#128) (hxor : ∀ a b, φ (a ^^^ b) = φ a ^^^ φ b)
    (n : Nat) (f : Nat → Block) : φ (xorSum n f) = xorSum n fun j => φ (f j) := by
  induction n generalizing f with
  | zero => exact hzero
  | succ n ih => rw [xorSum, hxor, ih, xorSum]

/-- Two sums over independent ranges may be exchanged. -/
theorem xorSum_comm (m n : Nat) (f : Nat → Nat → Block) :
    xorSum m (fun i => xorSum n fun j => f i j) = xorSum n fun j => xorSum m fun i => f i j := by
  induction m generalizing f with
  | zero => exact (xorSum_zero n).symm
  | succ m ih => rw [xorSum, ih, ← xorSum_xor]; rfl

theorem getLsbD_xorSum_of_false {n i : Nat} {f : Nat → Block}
    (h : ∀ j < n, (f j).getLsbD i = false) : (xorSum n f).getLsbD i = false := by
  induction n generalizing f with
  | zero => exact BitVec.getLsbD_zero
  | succ n ih =>
    rw [xorSum, BitVec.getLsbD_xor, h 0 (by omega), ih fun j hj => h (j + 1) (by omega),
      Bool.false_xor]

/-- A bit that at most one term of a sum has set is that term's. -/
theorem getLsbD_xorSum_single {n k i : Nat} (hk : k < n) {f : Nat → Block}
    (h : ∀ j < n, j ≠ k → (f j).getLsbD i = false) :
    (xorSum n f).getLsbD i = (f k).getLsbD i := by
  induction n generalizing f k with
  | zero => omega
  | succ n ih =>
    rw [xorSum, BitVec.getLsbD_xor]
    cases k with
    | zero =>
      rw [getLsbD_xorSum_of_false fun j hj => h (j + 1) (by omega) (by omega), Bool.xor_false]
    | succ k =>
      have htail := ih (k := k) (f := fun j => f (j + 1)) (by omega) fun j hj hne =>
        h (j + 1) (by omega) (by omega)
      rw [h 0 (by omega) (by omega), Bool.false_xor, htail]

/-- A sum of which at most one term is not zero. -/
theorem xorSum_single {n k : Nat} (hk : k < n) {f : Nat → Block}
    (h : ∀ j < n, j ≠ k → f j = 0#128) : xorSum n f = f k := by
  apply BitVec.eq_of_getLsbD_eq
  intro i _
  refine getLsbD_xorSum_single hk fun j hj hne => ?_
  rw [h j hj hne, BitVec.getLsbD_zero]

/-- The block `v` if the bit is set, and zero otherwise. -/
def select (b : Bool) (v : Block) : Block := if b then v else 0#128

theorem select_false (v : Block) : select false v = 0#128 := rfl
theorem select_true (v : Block) : select true v = v := rfl

theorem select_zero (b : Bool) : select b 0#128 = 0#128 := by cases b <;> rfl

theorem select_xor (b : Bool) (v w : Block) : select b (v ^^^ w) = select b v ^^^ select b w := by
  cases b <;> simp [select]

theorem select_bne (a b : Bool) (v : Block) : select (a ^^ b) v = select a v ^^^ select b v := by
  cases a <;> cases b <;> simp [select]

theorem select_comm (a b : Bool) (v : Block) : select a (select b v) = select b (select a v) := by
  cases a <;> cases b <;> rfl

theorem getLsbD_select (b : Bool) (v : Block) (i : Nat) :
    (select b v).getLsbD i = (b && v.getLsbD i) := by
  cases b with
  | false => exact BitVec.getLsbD_zero
  | true => rfl

/-! ## Multiplication by `x` (R12) -/

/-- The product with `x` in GF(2^128): one place to the right, and the reduction of what falls out
(`90_conflicts.md` C2). -/
def mulX (v : Block) : Block :=
  (v >>> 1) ^^^ select (v.getLsbD 0) 0xE1000000000000000000000000000000#128

theorem mulX_zero : mulX 0#128 = 0#128 := by decide

theorem mulX_xor (v w : Block) : mulX (v ^^^ w) = mulX v ^^^ mulX w := by
  rw [mulX, mulX, mulX, BitVec.getLsbD_xor, select_bne, BitVec.ushiftRight_xor_distrib]
  ac_rfl

theorem blockOfWords_xor (a b c d : Word) :
    blockOfWords a b ^^^ blockOfWords c d = blockOfWords (a ^^^ c) (b ^^^ d) :=
  BitVec.xor_append

theorem blockOfWords_getLsbD (a b : Word) (i : Nat) :
    (blockOfWords a b).getLsbD i = if i < 64 then b.getLsbD i else a.getLsbD (i - 64) :=
  BitVec.getLsbD_append

/-- The shift of a block takes the last bit of its first half into its second half. -/
theorem blockOfWords_ushiftRight_one (a b : Word) :
    blockOfWords a b >>> 1 = blockOfWords (a >>> 1) ((b >>> 1) ||| (a <<< 63)) := by
  apply BitVec.eq_of_getLsbD_eq
  intro i hi
  simp only [BitVec.getLsbD_ushiftRight, blockOfWords_getLsbD, BitVec.getLsbD_or,
    BitVec.getLsbD_shiftLeft]
  rcases Nat.lt_trichotomy i 63 with h | rfl | h
  · rw [if_pos (by omega), if_pos (by omega)]
    simp [h]
  · simp
  · rw [if_neg (by omega), if_neg (by omega), show 1 + i - 64 = 1 + (i - 64) by omega]

/-- Multiplication by `x` on the two halves of a block. -/
theorem mulX_blockOfWords (a b : Word) :
    mulX (blockOfWords a b) =
      blockOfWords ((a >>> 1) ^^^ (if b.getLsbD 0 then 0xE100000000000000 else 0))
        ((b >>> 1) ||| (a <<< 63)) := by
  have hconst : 0xE1000000000000000000000000000000#128 = blockOfWords 0xE100000000000000 0 := by
    decide
  rw [mulX, blockOfWords_getLsbD, if_pos (by omega), blockOfWords_ushiftRight_one, hconst]
  cases b.getLsbD 0 with
  | false => simp [select_false]
  | true => simp [select_true, blockOfWords_xor]

/-! ## `block_mult` as a sum (R12) -/

theorem and_one_eq_one_iff (w : Word) : w &&& 1#64 = 1#64 ↔ w.getLsbD 0 = true := by
  rw [BitVec.and_one_eq_setWidth_ofBool_getLsbD]
  cases w.getLsbD 0 <;> decide

theorem and_one_shiftLeft (w : Word) : (w &&& 1#64) <<< 63 = w <<< 63 := by
  apply BitVec.eq_of_getLsbD_eq
  intro i hi
  rw [BitVec.getLsbD_shiftLeft, BitVec.getLsbD_shiftLeft, BitVec.getLsbD_and]
  by_cases h : i = 63
  · subst h
    simp
  · simp [show i < 63 by omega]

/-- The bit that the loop looks at with `n + 1` steps to go is bit `n` of the first factor. -/
theorem multLoop_bit (x0 x1 : Word) {n : Nat} (h : n < 128) :
    (if 127 - n < 64 then (x0 >>> (63 - (127 - n))) &&& 1#64
      else (x1 >>> (127 - (127 - n))) &&& 1#64) = 1#64 ↔
      (blockOfWords x0 x1).getLsbD n = true := by
  rw [blockOfWords_getLsbD]
  split
  · rw [if_neg (by omega), and_one_eq_one_iff, BitVec.getLsbD_ushiftRight,
      show 63 - (127 - n) + 0 = n - 64 by omega]
  · rw [if_pos (by omega), and_one_eq_one_iff, BitVec.getLsbD_ushiftRight,
      show 127 - (127 - n) + 0 = n by omega]

/-- One accumulation of the loop, on blocks. -/
theorem blockOfWords_accumulate (c : Prop) [Decidable c] (z0 z1 v0 v1 : Word) :
    blockOfWords (if c then z0 ^^^ v0 else z0) (if c then z1 ^^^ v1 else z1) =
      blockOfWords z0 z1 ^^^ select (decide c) (blockOfWords v0 v1) := by
  by_cases h : c
  · rw [if_pos h, if_pos h, decide_eq_true h, select_true, blockOfWords_xor]
  · rw [if_neg h, if_neg h, decide_eq_false h, select_false, BitVec.xor_zero]

/-- The product of two blocks as a sum: for each set bit of the first factor, most significant first,
the second factor multiplied that often by `x`. -/
def product (x v : Block) (n : Nat) : Block :=
  xorSum n fun j => select (x.getLsbD (n - 1 - j)) (mulX^[j] v)

theorem product_succ (x v : Block) (n : Nat) :
    product x v (n + 1) = select (x.getLsbD n) v ^^^ product x (mulX v) n := by
  rw [product, xorSum, product]
  congr 1
  refine xorSum_congr fun j hj => ?_
  rw [Function.iterate_succ_apply, show n + 1 - 1 - (j + 1) = n - 1 - j by omega]

/-- The loop adds the product over its remaining bits to the accumulator. -/
theorem multLoop_eq_product (x0 x1 : Word) {n : Nat} (hn : n ≤ 128) (z0 z1 v0 v1 : Word) :
    blockOfWords (multLoop x0 x1 n z0 z1 v0 v1).1 (multLoop x0 x1 n z0 z1 v0 v1).2 =
      blockOfWords z0 z1 ^^^ product (blockOfWords x0 x1) (blockOfWords v0 v1) n := by
  induction n generalizing z0 z1 v0 v1 with
  | zero => exact BitVec.xor_zero.symm
  | succ n ih =>
    have hbit := multLoop_bit x0 x1 (show n < 128 by omega)
    rw [product_succ, ← BitVec.xor_assoc]
    simp only [multLoop, hbit]
    have hreduce : (if v1.getLsbD 0 = true then v0 >>> 1 ^^^ 0xE100000000000000#64 else v0 >>> 1) =
        v0 >>> 1 ^^^ (if v1.getLsbD 0 = true then 0xE100000000000000 else 0) := by
      split <;> simp
    simp only [and_one_eq_one_iff, and_one_shiftLeft, hreduce]
    split
    · rw [ih (by omega), blockOfWords_accumulate, mulX_blockOfWords, Bool.decide_eq_true]
    · obtain rfl : n = 0 := by omega
      rw [multLoop, blockOfWords_accumulate, Bool.decide_eq_true]
      exact BitVec.xor_zero.symm

theorem blockMult_eq_product (x0 x1 h0 h1 : Word) :
    blockOfWords (blockMult x0 x1 h0 h1).1 (blockMult x0 x1 h0 h1).2 =
      product (blockOfWords x0 x1) (blockOfWords h0 h1) 128 := by
  unfold blockMult
  rw [multLoop_eq_product x0 x1 le_rfl]
  exact BitVec.zero_xor

/-- Two pairs of words that spell one block are equal. -/
theorem pair_eq_of_blockOfWords_eq {p q : Word × Word}
    (h : blockOfWords p.1 p.2 = blockOfWords q.1 q.2) : p = q := by
  have h0 := congrArg word0 h
  have h1 := congrArg word1 h
  rw [word0_blockOfWords, word0_blockOfWords] at h0
  rw [word1_blockOfWords, word1_blockOfWords] at h1
  exact Prod.ext h0 h1

/-! ## The laws of the sum -/

theorem mulX_iterate_zero (j : Nat) : mulX^[j] 0#128 = 0#128 :=
  Function.iterate_fixed mulX_zero j

theorem mulX_iterate_xor (j : Nat) (v w : Block) :
    mulX^[j] (v ^^^ w) = mulX^[j] v ^^^ mulX^[j] w := by
  induction j generalizing v w with
  | zero => rfl
  | succ j ih => rw [Function.iterate_succ_apply, mulX_xor, ih]; rfl

theorem mulX_iterate_select (j : Nat) (b : Bool) (v : Block) :
    mulX^[j] (select b v) = select b (mulX^[j] v) := by
  cases b with
  | false => exact mulX_iterate_zero j
  | true => rfl

theorem product_xor (x y v : Block) (n : Nat) :
    product (x ^^^ y) v n = product x v n ^^^ product y v n := by
  rw [product, product, product, ← xorSum_xor]
  exact xorSum_congr fun j _ => by rw [BitVec.getLsbD_xor, select_bne]

theorem getLsbD_singleBit {k : Nat} (hk : k < 128) (i : Nat) :
    (BitVec.twoPow 128 k).getLsbD i = decide (k = i) := by
  rw [BitVec.getLsbD_twoPow, decide_eq_true hk, Bool.true_and]

/-- The product with a single power of `x`. -/
theorem product_twoPow {k : Nat} (hk : k < 128) (v : Block) :
    product (BitVec.twoPow 128 (127 - k)) v 128 = mulX^[k] v := by
  rw [product, xorSum_single hk fun j hj hne => ?_]
  · rw [getLsbD_singleBit (by omega), decide_eq_true rfl, select_true]
  · rw [getLsbD_singleBit (by omega), decide_eq_false (by omega), select_false]

theorem mulX_twoPow {k : Nat} (hk : k < 127) :
    mulX (BitVec.twoPow 128 (k + 1)) = BitVec.twoPow 128 k := by
  rw [mulX, getLsbD_singleBit (by omega), decide_eq_false (Nat.succ_ne_zero k), select_false,
    BitVec.xor_zero]
  apply BitVec.eq_of_getLsbD_eq
  intro i _
  rw [BitVec.getLsbD_ushiftRight, getLsbD_singleBit (by omega), getLsbD_singleBit (by omega)]
  exact decide_eq_decide.mpr (by omega)

/-- The powers of `x` are the single bits, from the most significant on. -/
theorem mulX_iterate_one {j : Nat} (hj : j < 128) :
    mulX^[j] (BitVec.twoPow 128 127) = BitVec.twoPow 128 (127 - j) := by
  induction j with
  | zero => rfl
  | succ j ih =>
    rw [Function.iterate_succ_apply', ih (by omega),
      show 127 - j = 127 - (j + 1) + 1 by omega, mulX_twoPow (by omega)]

/-- Every block is the sum of the powers of `x` that its bits select. -/
theorem product_one (v : Block) : product v (BitVec.twoPow 128 127) 128 = v := by
  apply BitVec.eq_of_getLsbD_eq
  intro i hi
  have hterm (j : Nat) (hj : j < 128) :
      (select (v.getLsbD (128 - 1 - j)) (mulX^[j] (BitVec.twoPow 128 127))).getLsbD i =
        (v.getLsbD (127 - j) && decide (127 - j = i)) := by
    rw [mulX_iterate_one hj, getLsbD_select, getLsbD_singleBit (by omega)]
  rw [product, getLsbD_xorSum_single (k := 127 - i) (by omega) fun j hj hne => ?_]
  · rw [hterm _ (by omega), show 127 - (127 - i) = i by omega, decide_eq_true rfl, Bool.and_true]
  · rw [hterm j hj, decide_eq_false (by omega), Bool.and_false]

/-- Both factors as sums of powers of `x`: the double sum is the same in either order. -/
theorem product_comm (x v : Block) : product x v 128 = product v x 128 := by
  have expand (a b : Block) : product a b 128 = xorSum 128 fun i => xorSum 128 fun j =>
      select (a.getLsbD (127 - i)) (select (b.getLsbD (127 - j))
        (mulX^[i + j] (BitVec.twoPow 128 127))) := by
    conv_lhs => rw [← product_one b]
    refine xorSum_congr fun i _ => ?_
    rw [product, map_xorSum (mulX_iterate_zero i) (mulX_iterate_xor i),
      map_xorSum (select_zero _) (select_xor _)]
    refine xorSum_congr fun j _ => ?_
    rw [mulX_iterate_select, ← Function.iterate_add_apply]
  rw [expand, expand, xorSum_comm]
  refine xorSum_congr fun i _ => xorSum_congr fun j _ => ?_
  rw [select_comm, Nat.add_comm]

end Sys2Proof.Machine

namespace Sys2Proof.Safety

open Sys2Proof.Machine

/-- Settles O15: as sums over powers of `x`, the two products are the same. -/
theorem blockMultIsCommutative : Obligations.BlockMultIsCommutative := by
  intro x0 x1 h0 h1
  apply pair_eq_of_blockOfWords_eq
  rw [blockMult_eq_product, blockMult_eq_product, product_comm]

theorem blockMult_xor (x0 x1 y0 y1 h0 h1 : Word) :
    blockMult (x0 ^^^ y0) (x1 ^^^ y1) h0 h1 =
      ((blockMult x0 x1 h0 h1).1 ^^^ (blockMult y0 y1 h0 h1).1,
        (blockMult x0 x1 h0 h1).2 ^^^ (blockMult y0 y1 h0 h1).2) := by
  apply pair_eq_of_blockOfWords_eq
  rw [blockMult_eq_product, ← blockOfWords_xor, ← blockOfWords_xor, product_xor,
    blockMult_eq_product, blockMult_eq_product]

/-- Settles O14: the product with a power of `x` is that many shifts; the laws in the second argument
follow from those in the first. -/
theorem blockMultIsBilinearWithZeroAndOne : Obligations.BlockMultIsBilinearWithZeroAndOne := by
  have hcomm := blockMultIsCommutative
  have hone : blockOfWords 0x8000000000000000 0 = BitVec.twoPow 128 (127 - 0) := by decide
  have hx : blockOfWords 0x4000000000000000 0 = BitVec.twoPow 128 (127 - 1) := by decide
  refine ⟨blockMult_zero_left, fun x0 x1 => ?_, fun h0 h1 => ?_, fun h0 h1 => ?_, blockMult_xor,
    fun x0 x1 g0 g1 h0 h1 => ?_⟩
  · rw [hcomm]
    exact blockMult_zero_left x0 x1
  · apply pair_eq_of_blockOfWords_eq
    rw [blockMult_eq_product, hone, product_twoPow (by decide)]
    rfl
  · apply pair_eq_of_blockOfWords_eq
    rw [blockMult_eq_product, hx, product_twoPow (by decide)]
    exact mulX_blockOfWords h0 h1
  · rw [hcomm x0 x1, blockMult_xor, hcomm g0 g1, hcomm h0 h1]

end Sys2Proof.Safety

/-! PROOFS. Runs of several commands: how a run is put together and taken apart, and what a save point
keeps across one (properties P4 and P5 of `95_test_vectors.md` section 6). -/

namespace Sys2Proof.Safety

open Sys2Proof.Machine

/-! ## Runs -/

/-- A run goes on with the rest of the commands from the state the first one leaves. -/
theorem runInstrs_cons {i : Instr} {s t : State} {r : Response} (h : exec i s = .next t)
    (hr : t.response = some r) (is : List Instr) :
    runInstrs (i :: is) s = (runInstrs is t).map fun x => (x.1, r :: x.2) := by
  rw [runInstrs, h]
  simp only [hr]
  cases runInstrs is t <;> rfl

/-- The same for a command that answers `OK`. -/
theorem runInstrs_cons_ok {i : Instr} {s u : State} {n : Int} {out : Bytes}
    (h : exec i s = okAnswer n out u) (is : List Instr) :
    runInstrs (i :: is) s = (runInstrs is (u.respond ⟨.ok, 0, n, out⟩)).map
      fun x => (x.1, ⟨.ok, 0, n, out⟩ :: x.2) :=
  runInstrs_cons h rfl is

/-- A run that completes began with a command that answered. -/
theorem runInstrs_cons_some {i : Instr} {is : List Instr} {s u : State} {rs : List Response}
    (h : runInstrs (i :: is) s = some (u, rs)) :
    ∃ t r qs, exec i s = .next t ∧ t.response = some r ∧ runInstrs is t = some (u, qs) ∧
      rs = r :: qs := by
  rw [runInstrs] at h
  split at h
  · next t ht =>
    split at h
    · next r u' qs hr hrest =>
      cases h
      exact ⟨t, r, qs, ht, hr, hrest, rfl⟩
    · cases h
  · cases h
  · cases h

/-- A refused command ends the run without a state. -/
theorem runInstrs_cons_refused {i : Instr} {s : State} {q : Refusal} (h : exec i s = .refused q)
    (is : List Instr) : runInstrs (i :: is) s = none := by
  rw [runInstrs, h]

theorem runInstrs_append (is js : List Instr) (s : State) :
    runInstrs (is ++ js) s =
      (runInstrs is s).bind fun x => (runInstrs js x.1).map fun y => (y.1, x.2 ++ y.2) := by
  induction is generalizing s with
  | nil => simp [runInstrs]
  | cons i is ih =>
    rw [List.cons_append]
    cases h : exec i s with
    | next t =>
      obtain ⟨r, hr⟩ := exec_response h
      rw [runInstrs_cons h hr, runInstrs_cons h hr, ih]
      cases runInstrs is t with
      | none => rfl
      | some x => cases h' : runInstrs js x.1 <;> simp [h']
    | fault f => simp [runInstrs, h]
    | refused q => rw [runInstrs_cons_refused h, runInstrs_cons_refused h]; rfl

/-- What every command of a run keeps, the run keeps. -/
theorem runInstrs_keeps {P : State → Prop} {is : List Instr}
    (hkeeps : ∀ i ∈ is, ∀ s t, P s → exec i s = .next t → P t) {s t : State} {rs : List Response}
    (hrun : runInstrs is s = some (t, rs)) (hs : P s) : P t := by
  induction is generalizing s rs with
  | nil =>
    cases hrun
    exact hs
  | cons i is ih =>
    obtain ⟨u, r, qs, hu, -, hrest, -⟩ := runInstrs_cons_some hrun
    exact ih (fun j hj => hkeeps j (List.mem_cons_of_mem i hj)) hrest
      (hkeeps i List.mem_cons_self s u hs hu)

/-- The last command of a run starts where the commands before it have kept `P`. -/
theorem exec_last_of_run {P : State → Prop} {is : List Instr} {i : Instr}
    (hkeeps : ∀ i ∈ is, ∀ s t, P s → exec i s = .next t → P t) {s t : State} {rs : List Response}
    (hrun : runInstrs (is ++ [i]) s = some (t, rs)) (hs : P s) : ∃ u, P u ∧ exec i u = .next t := by
  rw [runInstrs_append] at hrun
  obtain ⟨⟨u, qs⟩, hu, hlast⟩ := Option.bind_eq_some_iff.mp hrun
  obtain ⟨⟨v, ps⟩, hv, heq⟩ := Option.map_eq_some_iff.mp hlast
  cases heq
  obtain ⟨w, r, _, hw, -, hnil, -⟩ := runInstrs_cons_some hv
  cases hnil
  exact ⟨u, runInstrs_keeps hkeeps hu hs, hw⟩

/-! ## The save point of the GHASH unit -/

/-- The unit is initialised and its valid snapshot holds the accumulator of `s`. -/
def HoldsAccOf (s t : State) : Prop :=
  t.ghInit = true ∧ t.ghSv = true ∧ t.ss0 = s.s0 ∧ t.ss1 = s.s1

theorem Effect.savedAcc_kept {i : Instr} {s u : State} (h : Effect s i u)
    (hi : writesSavedAcc i = false) : u.ghSv = s.ghSv ∧ u.ss0 = s.ss0 ∧ u.ss1 = s.ss1 := by
  cases h with
  | ghashInit _ | ghashSave | gcmInit _ _ _ _ | gcmSave _ => cases hi
  | _ => exact ⟨rfl, rfl, rfl⟩

theorem holdsAccOf_kept {i : Instr} (hi : writesSavedAcc i = false) (s t u : State)
    (ht : HoldsAccOf s t) (hu : exec i t = .next u) : HoldsAccOf s u := by
  obtain ⟨v, r, rfl | heff, rfl⟩ := exec_next hu
  · exact ht
  · obtain ⟨hinit, hsv, h0, h1⟩ := ht
    obtain ⟨hsv', h0', h1'⟩ := heff.savedAcc_kept hi
    exact ⟨heff.presence_kept.1 hinit, hsv'.trans hsv, h0'.trans h0, h1'.trans h1⟩

/-- Settles O25: the commands between keep the snapshot, so the restore is legal and brings it
back. -/
theorem ghashRestoreBringsTheAccumulatorBack :
    Obligations.GhashRestoreBringsTheAccumulatorBack := by
  intro is s t rs hinit his hrun
  rw [List.cons_append] at hrun
  obtain ⟨saved, -, qs, hsave, -, hrest, -⟩ := runInstrs_cons_some hrun
  rw [(ghashResetSaveRestore s).2.1, if_neg (by simp [hinit])] at hsave
  have hsaved : HoldsAccOf s saved := by
    cases hsave
    exact ⟨hinit, rfl, rfl, rfl⟩
  obtain ⟨u, ⟨hu, husv, h0, h1⟩, hlast⟩ :=
    exec_last_of_run (fun i hi v w => holdsAccOf_kept (his i hi) s v w) hrest hsaved
  rw [(ghashResetSaveRestore u).2.2, if_neg (by simp [hu, husv])] at hlast
  cases hlast
  exact ⟨h0, h1, rfl⟩

/-! ## The save point of the GCTR unit -/

/-- The unit is initialised and its valid snapshot holds the counter of `s`. -/
def HoldsCtrOf (s t : State) : Prop :=
  t.gcInit = true ∧ t.gcSv = true ∧ t.ctrs = s.ctr

theorem Effect.savedCtr_kept {i : Instr} {s u : State} (h : Effect s i u)
    (hi : writesSavedCtr i = false) : u.gcSv = s.gcSv ∧ u.ctrs = s.ctrs := by
  cases h with
  | gctrInit _ _ | gctrReset | gctrSave _ | gcmInit _ _ _ _ | gcmReset _ | gcmSave _ => cases hi
  | _ => exact ⟨rfl, rfl⟩

theorem holdsCtrOf_kept {i : Instr} (hi : writesSavedCtr i = false) (s t u : State)
    (ht : HoldsCtrOf s t) (hu : exec i t = .next u) : HoldsCtrOf s u := by
  obtain ⟨v, r, rfl | heff, rfl⟩ := exec_next hu
  · exact ht
  · obtain ⟨hinit, hsv, hctr⟩ := ht
    obtain ⟨hsv', hctr'⟩ := heff.savedCtr_kept hi
    exact ⟨heff.presence_kept.2 hinit, hsv'.trans hsv, hctr'.trans hctr⟩

/-- Settles O31: the commands between keep the snapshot, so the restore is legal and brings it
back. -/
theorem gctrRestoreBringsTheCounterBack : Obligations.GctrRestoreBringsTheCounterBack := by
  intro is s t rs hinit his hrun
  rw [List.cons_append] at hrun
  obtain ⟨saved, -, qs, hsave, -, hrest, -⟩ := runInstrs_cons_some hrun
  rw [(gctrResetSaveRestore s).2.1, if_neg (by simp [hinit])] at hsave
  have hsaved : HoldsCtrOf s saved := by
    cases hsave
    exact ⟨hinit, rfl, rfl⟩
  obtain ⟨u, ⟨hu, husv, hctr⟩, hlast⟩ :=
    exec_last_of_run (fun i hi v w => holdsCtrOf_kept (his i hi) s v w) hrest hsaved
  rw [(gctrResetSaveRestore u).2.2, if_neg (by simp [hu, husv])] at hlast
  cases hlast
  exact ⟨hctr, rfl⟩

/-! ## The save point of the orchestrator -/

/-- The state `s` with the operation advanced as far as it is in `t`. -/
def advancedTo (t s : State) : State :=
  { s with
    s0 := t.s0, s1 := t.s1, ctr := t.ctr
    phase := t.phase, aad := t.aad, aadlen := t.aadlen, proc := t.proc, ibuf := t.ibuf
    response := t.response }

/-- The states differ at most in how far the operation has advanced, and in the response. -/
def SameOperation (s t : State) : Prop := t = advancedTo t s

theorem SameOperation.trans {s t u : State} (h : SameOperation s t) (h' : SameOperation t u) :
    SameOperation s u :=
  calc u = advancedTo u t := h'
    _ = advancedTo u (advancedTo t s) := congrArg (advancedTo u) h
    _ = advancedTo u s := rfl

theorem Effect.sameOperation {i : Instr} {s u : State} (h : Effect s i u)
    (hi : keepsSnapshot i = true) : SameOperation s u := by
  cases h with
  | gcmUpdateAad _ _ _ | gcmEncrypt _ _ _ _ _ | gcmEncryptFinal _ _ _ | gcmDecrypt _ _ _ _
  | gcmDecryptFinal _ _ _ _ _ | gcmRestore _ | gcmGetTagLength | gcmGetBufferedLength => rfl
  | _ => cases hi

/-- A command that answers among these leaves the operation the same. -/
theorem exec_sameOperation {i : Instr} {s t : State} (hi : keepsSnapshot i = true)
    (ht : exec i s = .next t) : SameOperation s t := by
  obtain ⟨u, r, rfl | heff, rfl⟩ := exec_next ht
  · rfl
  · exact congrArg (State.respond · r) (heff.sameOperation hi)

/-- None of these commands takes an operation back to `UNINIT`, if the saved phase is not. -/
theorem Effect.phase_ne_uninit {i : Instr} {s u : State} (h : Effect s i u)
    (hi : keepsSnapshot i = true) (hphase : s.phase ≠ .uninit)
    (hsaved : i = .gcmRestore → s.sPhase ≠ .uninit) : u.phase ≠ .uninit := by
  cases h with
  | gcmUpdateAad _ _ _ | gcmGetTagLength | gcmGetBufferedLength => exact hphase
  | gcmEncrypt _ _ _ _ _ | gcmEncryptFinal _ _ _ | gcmDecrypt _ _ _ _
  | gcmDecryptFinal _ _ _ _ _ => nofun
  | gcmRestore _ => exact hsaved rfl
  | _ => cases hi

theorem exec_phase_ne_uninit {i : Instr} {s t : State} (hi : keepsSnapshot i = true)
    (ht : exec i s = .next t) (hphase : s.phase ≠ .uninit)
    (hsaved : i = .gcmRestore → s.sPhase ≠ .uninit) : t.phase ≠ .uninit := by
  obtain ⟨u, r, rfl | heff, rfl⟩ := exec_next ht
  · exact hphase
  · exact heff.phase_ne_uninit hi hphase hsaved

/-- The state right after `GCM.SAVE`: the snapshot is valid and holds the operation (R149). -/
structure SavePoint (s : State) : Prop where
  ready : s.phase ≠ .uninit
  valid : (s.gmSv && s.gcSv && s.ghSv) = true
  holds : s =
    { s with
      phase := s.sPhase, aad := s.sAad, aadlen := s.sAadlen, proc := s.sProc
      ibuf := s.sIbuf, ctr := s.ctrs, s0 := s.ss0, s1 := s.ss1 }

theorem savePoint_of_gcmSave {s saved : State} (h : exec .gcmSave s = .next saved)
    (hphase : s.phase ≠ .uninit) : SavePoint saved := by
  rw [(gcmResetSaveRestore s).2.1, if_neg hphase] at h
  cases h
  exact ⟨hphase, rfl, rfl⟩

/-- Restoring the snapshot of a save point, from wherever its operation has advanced to, is possible
and gives the save point back. -/
theorem exec_gcmRestore_of_savePoint {s t : State} (hs : SavePoint s) (ht : SameOperation s t)
    (hphase : t.phase ≠ .uninit) :
    exec .gcmRestore t = .next { s with response := some ⟨.ok, 0, 0, []⟩ } := by
  have hvalid : (t.gmSv && t.gcSv && t.ghSv) = true := by
    rw [ht]
    exact hs.valid
  rw [(gcmResetSaveRestore t).2.2, if_neg (by simp [hphase, hvalid]), ht, hs.holds]
  rfl

/-- Settles O59: the commands between leave the operation the same and started, so the restore is
legal. -/
theorem restoreRollsBackToTheSavePoint : Obligations.RestoreRollsBackToTheSavePoint := by
  intro is s saved t rs hsave hphase his hrun
  have hs := savePoint_of_gcmSave hsave hphase
  have hkeeps : ∀ i ∈ is, ∀ u v, SameOperation saved u ∧ u.phase ≠ .uninit → exec i u = .next v →
      SameOperation saved v ∧ v.phase ≠ .uninit := by
    rintro i hi u v ⟨hu, huphase⟩ hv
    have husaved : u.sPhase = saved.phase := by
      rw [hu, hs.holds]
      rfl
    exact ⟨hu.trans (exec_sameOperation (his i hi) hv),
      exec_phase_ne_uninit (his i hi) hv huphase fun _ => husaved ▸ hs.ready⟩
  obtain ⟨u, ⟨hu, huphase⟩, hlast⟩ := exec_last_of_run hkeeps hrun ⟨rfl, hs.ready⟩
  rw [exec_gcmRestore_of_savePoint hs hu huphase] at hlast
  cases hlast
  exact ⟨rfl, rfl⟩

/-! ## The same commands after a reset (R148) -/

theorem keepsSnapshot_of_feedsOperation {i : Instr} (h : feedsOperation i = true) :
    keepsSnapshot i = true := by
  cases i with
  | gcmUpdateAad _ _ _ | gcmEncrypt _ _ _ | gcmEncryptFinal _ _ _ | gcmDecrypt _ _ _
  | gcmDecryptFinal _ _ _ => rfl
  | _ => cases h

/-- Only decryption writes the input buffer (R146, R147). -/
theorem Effect.ibuf_kept {i : Instr} {s u : State} (h : Effect s i u)
    (hi : feedsOperation i = true) (hdec : s.dec = false) : u.ibuf = s.ibuf := by
  cases h with
  | gcmUpdateAad _ _ _ | gcmEncrypt _ _ _ _ _ | gcmEncryptFinal _ _ _ => rfl
  | gcmDecrypt _ _ hopen _ | gcmDecryptFinal _ _ hopen _ _ =>
    exact absurd (hopen.2.symm.trans hdec) nofun
  | _ => cases hi

/-- An operation that was just started and has been fed: the same operation, started, and with an
empty input buffer when encrypting. -/
structure Fed (s t : State) : Prop where
  same : SameOperation s t
  ready : t.phase ≠ .uninit
  ibuf : s.dec = false → t.ibuf = []

theorem fed_kept {i : Instr} (hi : feedsOperation i = true) (s t u : State) (h : Fed s t)
    (hu : exec i t = .next u) : Fed s u := by
  have hsnap := keepsSnapshot_of_feedsOperation hi
  refine ⟨h.same.trans (exec_sameOperation hsnap hu),
    exec_phase_ne_uninit hsnap hu h.ready (fun hr => by simp [hr, feedsOperation] at hi),
    fun hdec => ?_⟩
  have htdec : t.dec = false := by
    rw [h.same]
    exact hdec
  obtain ⟨v, r, rfl | heff, rfl⟩ := exec_next hu
  · exact h.ibuf hdec
  · exact (heff.ibuf_kept hi htdec).trans (h.ibuf hdec)

/-- The registers of an operation that was just started, written out. -/
theorem JustStarted.eq {s : State} (h : JustStarted s) :
    s = { s with
      phase := .init, aad := [], aadlen := 0, proc := 0, ibuf := [], ctr := s.icb
      s0 := 0, s1 := 0 } := by
  obtain ⟨hphase, haad, haadlen, hproc, hibuf, hctr, h0, h1⟩ := h
  cases s
  cases hphase
  cases haad
  cases haadlen
  cases hproc
  cases hibuf
  cases hctr
  cases h0
  cases h1
  rfl

/-- `GCM.RESET` brings a fed operation back to its start, but for the snapshot of the GCTR unit, which
is no longer valid (R148). -/
theorem exec_gcmReset_of_fed {s t : State} (hs : JustStarted s) (ht : Fed s t) :
    exec .gcmReset t = .next (disturb s.port (some false) (some ⟨.ok, 0, 0, []⟩) s) := by
  have hibuf : (if t.dec = true then [] else t.ibuf) = [] := by
    split
    · rfl
    · next hdec =>
      rw [ht.same] at hdec
      exact ht.ibuf (Bool.of_not_eq_true hdec)
  rw [(gcmResetSaveRestore t).1, if_neg ht.ready, hibuf, ht.same]
  conv_rhs => rw [hs.eq]
  rfl

/-- A run of commands that feed an operation gives the same responses whatever the events still to
come, the old response and the valid bit of the GCTR snapshot. -/
theorem runInstrs_disturb {is : List Instr} (his : ∀ i ∈ is, feedsOperation i = true)
    {s t : State} {rs : List Response} (hrun : runInstrs is s = some (t, rs))
    (p : List PortEvent) (v : Option Bool) (o : Option Response) :
    ∃ u, runInstrs is (disturb p v o s) = some (u, rs) := by
  induction is generalizing s rs o with
  | nil =>
    cases hrun
    exact ⟨_, rfl⟩
  | cons i is ih =>
    obtain ⟨hi, his⟩ := List.forall_mem_cons.mp his
    obtain ⟨w, r, qs, hw, hr, hrest, rfl⟩ := runInstrs_cons_some hrun
    obtain ⟨u, hu⟩ := ih his hrest w.response
    have hexec : exec i (disturb p v o s) = .next (disturb p v w.response w) := by
      rw [exec_disturb (.inr hi), hw]
      rfl
    refine ⟨u, ?_⟩
    rw [runInstrs_cons hexec hr, hu]
    rfl

/-- Settles O58: the run leaves the same operation, which the reset brings back to its start; the
second run differs from the first in nothing that its commands look at. -/
theorem resetReplaysTheOperation : Obligations.ResetReplaysTheOperation := by
  intro is s t rs hs his hrun
  have hstart : Fed s s := ⟨rfl, by simp [hs.phase], fun _ => hs.ibuf⟩
  have ht : Fed s t := runInstrs_keeps (fun i hi u v => fed_kept (his i hi) s u v) hrun hstart
  obtain ⟨u, hu⟩ := runInstrs_disturb his hrun s.port (some false) (some ⟨.ok, 0, 0, []⟩)
  refine ⟨u, ?_⟩
  rw [runInstrs_cons (exec_gcmReset_of_fed hs ht) rfl, hu]
  rfl

end Sys2Proof.Safety

/-! PROOFS. The units over several commands: GHASH and GCTR over pieces of one byte string (R107,
R126). The pieces are taken one command at a time; what the next command finds is what the recurrence
over the pieces so far has left. -/

namespace Sys2Proof.Safety

open Sys2Proof.Machine

@[simp] theorem outputs_nil : outputs [] = [] := rfl

@[simp] theorem outputs_cons (r : Response) (rs : List Response) :
    outputs (r :: rs) = r.out ++ outputs rs := rfl

@[simp] theorem outputs_append (rs qs : List Response) :
    outputs (rs ++ qs) = outputs rs ++ outputs qs := by
  simp [outputs]

/-! ## GHASH over pieces (R107) -/

/-- The operands of one `GHASH.UPDATE` that absorbs `memRead u.1 u.2.1 u.2.2`: whole blocks within
the operand (R101). -/
abbrev IsPiece (u : Bytes × Int × Int) : Prop :=
  0 ≤ u.2.1 ∧ 0 ≤ u.2.2 ∧ u.2.2 % 16 = 0 ∧ u.2.1 + u.2.2 ≤ u.1.length

theorem exec_ghashUpdate_of_isPiece {u : Bytes × Int × Int} (hu : IsPiece u) {s : State}
    (hinit : s.ghInit = true) :
    exec (.ghashUpdate u.1 u.2.1 u.2.2) s =
      okAnswer 0 [] (s.setAcc (ghashFrom s.h0 s.h1 (s.s0, s.s1) (memRead u.1 u.2.1 u.2.2))) := by
  obtain ⟨hofs, hlen, hmod, hend⟩ := hu
  have hblocks : wholeBlocks u.2.2 = true := (wholeBlocks_iff _).mpr ⟨hlen, hmod⟩
  have hin : inOperand u.1 u.2.1 u.2.2 = true := (inOperand_iff _ _ _).mpr ⟨hofs, hlen, hend⟩
  rw [exec_ghashUpdate, if_neg (by simp [hinit]), if_neg (by simp [hblocks]), if_neg (by simp [hin])]

theorem sixteen_dvd_memRead_length {u : Bytes × Int × Int} (hu : IsPiece u) :
    16 ∣ (memRead u.1 u.2.1 u.2.2).length := by
  obtain ⟨hofs, hlen, hmod, hend⟩ := hu
  rw [memRead_length ((inOperand_iff _ _ _).mpr ⟨hofs, hlen, hend⟩)]
  omega

/-- After a piece the hash of what follows is the hash of both from the state before it (R107). -/
theorem hashFrom_append {a : Bytes} (h : 16 ∣ a.length) (b : Bytes) (s : State) (r : Response) :
    hashFrom ((s.setAcc (ghashFrom s.h0 s.h1 (s.s0, s.s1) a)).respond r) b =
      hashFrom s (a ++ b) := by
  rw [hashFrom, hashFrom, ghashFrom_append h]
  rfl

/-- Updates and a digest return the recurrence over the pieces from the accumulator they started with,
and leave it zero. -/
theorem runInstrs_ghashUpdates_digest {us : List (Bytes × Int × Int)} (hus : ∀ u ∈ us, IsPiece u)
    {s : State} (hinit : s.ghInit = true) :
    ∃ t rs, runInstrs (us.map (fun u => .ghashUpdate u.1 u.2.1 u.2.2) ++ [.ghashDigest]) s =
        some (t, rs) ∧
      sameRegisters t { s with s0 := 0, s1 := 0 } ∧
      outputs rs = bytesOfBlock (hashFrom s (us.map fun u => memRead u.1 u.2.1 u.2.2).flatten) := by
  induction us generalizing s with
  | nil =>
    have hexec := exec_ghashDigest s
    rw [if_neg (by simp [hinit])] at hexec
    exact ⟨_, _, runInstrs_cons_ok hexec [], rfl, List.append_nil _⟩
  | cons u us ih =>
    obtain ⟨hu, hus⟩ := List.forall_mem_cons.mp hus
    obtain ⟨t, rs, hrun, hsame, hout⟩ :=
      ih hus (s := State.respond (s.setAcc _) ⟨.ok, 0, 0, []⟩) hinit
    refine ⟨t, ⟨.ok, 0, 0, []⟩ :: rs, ?_, hsame, ?_⟩
    · rw [List.map_cons, List.cons_append,
        runInstrs_cons_ok (exec_ghashUpdate_of_isPiece hu hinit), hrun]
      rfl
    · rw [outputs_cons, hout, hashFrom_append (sixteen_dvd_memRead_length hu)]
      rfl

/-- Settles O24: the updates and the digest from the accumulator of the start, which `GHASH.INIT` has
made zero in the second clause. -/
theorem ghashHashesTheConcatenation : Obligations.GhashHashesTheConcatenation := by
  refine fun us s hus => ⟨runInstrs_ghashUpdates_digest hus, fun k hk => ?_⟩
  have hexec : exec (.ghashInit k) s = okAnswer 0 [] (s.loadSubkey (blockOfBytes k)) :=
    if_neg (not_not.mpr hk)
  obtain ⟨t, rs, hrun, -, hout⟩ := runInstrs_ghashUpdates_digest hus
    (s := (s.loadSubkey (blockOfBytes k)).respond ⟨.ok, 0, 0, []⟩) rfl
  refine ⟨t, ⟨.ok, 0, 0, []⟩ :: rs, ?_, hout⟩
  rw [List.cons_append, runInstrs_cons_ok hexec, hrun]
  rfl

/-! ## GCTR over pieces (R126) -/

/-- The `OK` response that returns the bytes `o` and their number. -/
abbrev returns (o : Bytes) : Response := ⟨.ok, 0, o.length, o⟩

theorem outputs_returns (os : List Bytes) (last : Bytes) :
    outputs (os.map returns ++ [returns last]) = os.flatten ++ last := by
  induction os with
  | nil => exact List.append_nil last
  | cons o os ih =>
    rw [List.map_cons, List.cons_append, outputs_cons, ih, List.flatten_cons, List.append_assoc]

/-- `GCTR.UPDATE` of whole blocks, all of its operand (R121). -/
theorem exec_gctrUpdate_all {s : State} {k : Key} (hk : s.ck = some k) (hinit : s.gcInit = true)
    {d : Bytes} (hd : 16 ∣ d.length) :
    exec (.gctrUpdate d d.length d.length) s =
      okAnswer (gctrFn (Config.encrypt k) s.ctr d).1.length (gctrFn (Config.encrypt k) s.ctr d).1
        (s.setCtr (gctrFn (Config.encrypt k) s.ctr d).2) := by
  have hblocks : wholeBlocks d.length = true := (wholeBlocks_iff _).mpr (by omega)
  rw [exec_gctrUpdate hk, if_neg (by simp [hinit]), if_neg (by simp [hblocks]), memRead_all,
    gctrFn_fst_length]

/-- `GCTR.DOFINAL` of all of its operand (R122). -/
theorem exec_gctrDofinal_all {s : State} {k : Key} (hk : s.ck = some k) (hinit : s.gcInit = true)
    (d : Bytes) :
    exec (.gctrDofinal d d.length d.length) s =
      okAnswer (gctrFn (Config.encrypt k) s.ctr d).1.length (gctrFn (Config.encrypt k) s.ctr d).1
        s.rewindCtr := by
  rw [exec_gctrDofinal hk, if_neg (by simp [hinit]), if_neg (by omega), if_neg (by omega),
    memRead_all, gctrFn_fst_length]

/-- The commands of an operation of the GCTR unit behind its `INIT`. -/
abbrev gctrCommands (ds : List Bytes) (df : Bytes) : List Instr :=
  ds.map (fun d => .gctrUpdate d d.length d.length) ++ [.gctrDofinal df df.length df.length]

/-- Updates of whole blocks and a final return, piece by piece, the keystream function of the
concatenation, and leave the counter at `ICB`. -/
theorem runInstrs_gctrCommands {ds : List Bytes} (hds : ∀ d ∈ ds, 16 ∣ d.length) (df : Bytes)
    {s : State} {k : Key} (hk : s.ck = some k) (hinit : s.gcInit = true) :
    ∃ (t : State) (os : List Bytes) (last : Bytes),
      runInstrs (gctrCommands ds df) s = some (t, os.map returns ++ [returns last]) ∧
      os.length = ds.length ∧ (∀ o ∈ os, 16 ∣ o.length) ∧
      os.flatten ++ last = (gctrFn (Config.encrypt k) s.ctr (ds.flatten ++ df)).1 ∧
      t.ctr = s.icb ∧ t.icb = s.icb := by
  induction ds generalizing s with
  | nil =>
    exact ⟨_, [], _, runInstrs_cons_ok (exec_gctrDofinal_all hk hinit df) [], rfl, nofun, rfl, rfl,
      rfl⟩
  | cons d ds ih =>
    obtain ⟨hd, hds⟩ := List.forall_mem_cons.mp hds
    obtain ⟨t, os, last, hrun, hlen, hos, hout, hctr, hicb⟩ :=
      ih hds (s := (s.setCtr (gctrFn (Config.encrypt k) s.ctr d).2).respond
        (returns (gctrFn (Config.encrypt k) s.ctr d).1)) hk hinit
    refine ⟨t, (gctrFn (Config.encrypt k) s.ctr d).1 :: os, last, ?_, ?_, ?_, ?_, hctr, hicb⟩
    · rw [gctrCommands, List.map_cons, List.cons_append,
        runInstrs_cons_ok (exec_gctrUpdate_all hk hinit hd), hrun]
      rfl
    · rw [List.length_cons, List.length_cons, hlen]
    · exact List.forall_mem_cons.mpr ⟨by rwa [gctrFn_fst_length], hos⟩
    · rw [List.flatten_cons, List.flatten_cons, List.append_assoc, List.append_assoc, hout,
        gctrFn_append _ hd]
      rfl

/-- Settles O30: the run over the inputs; the run over its outputs is one of the same kind, and
applying the keystream function twice gives the data back. -/
theorem gctrEncryptsTheConcatenation : Obligations.GctrEncryptsTheConcatenation := by
  intro icb ds df s k hk hicb hds
  have hexec : exec (.gctrInit icb) s = okAnswer 0 [] (s.loadCounter (blockOfBytes icb)) := by
    rw [gctrInitSeedsTheCounter, if_neg (by simp [hk]), if_neg (not_not.mpr hicb)]
    rfl
  let started := (s.loadCounter (blockOfBytes icb)).respond ⟨.ok, 0, 0, []⟩
  obtain ⟨t, os, last, hrun, hlen, hos, hout, hctr, hticb⟩ :=
    runInstrs_gctrCommands hds df (s := started) hk rfl
  obtain ⟨u, ps, plast, hrun', -, -, hout', -⟩ :=
    runInstrs_gctrCommands hos last (s := started) hk rfl
  refine ⟨t, os, last, ?_, hlen, hout, hctr, hticb, u,
    ⟨.ok, 0, 0, []⟩ :: (ps.map returns ++ [returns plast]), ?_, ?_⟩
  · rw [List.cons_append, runInstrs_cons_ok hexec, hrun]
    rfl
  · rw [List.cons_append, runInstrs_cons_ok hexec, hrun']
    rfl
  · rw [outputs_cons, outputs_returns, hout', hout]
    exact gctrFn_gctrFn _ _ _

/-! ## Output and its capacity (`20_memory.md` section 2) -/

/-- The response fits the output capacity `cap`: `n` counts the output data, which does not exceed the
capacity, and comes with `OK` only. -/
def FitsOutput (cap : Int) (r : Response) : Prop :=
  r.n = r.out.length ∧ (r.out.length : Int) ≤ max cap 0 ∧ (r.out ≠ [] → r.status = .ok)

/-- A response without output fits every capacity. -/
theorem fitsOutput_nil (st : Status) (info : BitVec 8) (cap : Int) :
    FitsOutput cap ⟨st, info, 0, []⟩ :=
  ⟨rfl, le_max_right cap 0, fun h => absurd rfl h⟩

theorem fitsOutput_ok {n cap : Int} {out : Bytes} (hn : n = out.length) (hcap : n ≤ cap) :
    FitsOutput cap ⟨.ok, 0, n, out⟩ :=
  ⟨hn, le_max_of_le_left (hn ▸ hcap), fun _ => rfl⟩

/-- An operand read from its start is as long as was asked. -/
theorem gctrFn_memRead_length {input : Bytes} {len : Int} (hin : inOperand input 0 len = true)
    (e : Block → Block) (cb : Block) : len = (gctrFn e cb (memRead input 0 len)).1.length := by
  have hlen := ((inOperand_iff input 0 len).mp hin).2.1
  rw [gctrFn_fst_length, memRead_length hin, Int.toNat_of_nonneg hlen]

section Output

variable (input : Bytes) (len outCap : Int) (s : State)

theorem gctrUpdate_fitsOutput :
    Answers (fun _ r => FitsOutput outCap r) (exec (.gctrUpdate input len outCap) s) := by
  refine .of_ite (fun _ => .of_raise (fitsOutput_nil ..)) fun _ =>
    .of_ite (fun _ => .of_raise (fitsOutput_nil ..)) fun hsize => .of_withKey fun k _ => .of_finish ?_
  rw [gctrUpdate_sizeCheck_iff] at hsize
  have hin : inOperand input 0 len = true := (inOperand_iff _ _ _).mpr (by omega)
  rw [memWrite_nil]
  exact fitsOutput_ok (gctrFn_memRead_length hin ..) (by omega)

theorem gctrDofinal_fitsOutput :
    Answers (fun _ r => FitsOutput outCap r) (exec (.gctrDofinal input len outCap) s) := by
  refine .of_ite (fun _ => .of_raise (fitsOutput_nil ..)) fun _ =>
    .of_ite (fun _ => .of_raise (fitsOutput_nil ..)) fun hneg =>
      .of_ite (fun _ => .of_raise (fitsOutput_nil ..)) fun hsize =>
        .of_withKey fun k _ => .of_finish ?_
  have hin : inOperand input 0 len = true := (inOperand_iff _ _ _).mpr (by omega)
  rw [memWrite_nil]
  exact fitsOutput_ok (gctrFn_memRead_length hin ..) (by omega)

theorem gcmEncrypt_fitsOutput :
    Answers (fun _ r => FitsOutput outCap r) (exec (.gcmEncrypt input len outCap) s) := by
  refine .of_ite (fun _ => .of_raise (fitsOutput_nil ..)) fun hlegal =>
    .of_ite (fun _ => .of_raise (fitsOutput_nil ..)) fun _ => .of_ite (fun _ => .of_refuse _) fun hin =>
      .of_ite (fun _ => .of_refuse _) fun _ => .of_withKey fun k _ => .of_finish ?_
  obtain ⟨hbounds, hcap⟩ := not_or.mp hin
  rw [memWrite_nil, ciphertext_eq (isOpen_of_payloadLegal hlegal).1]
  exact fitsOutput_ok (gctrFn_memRead_length (Bool.of_not_eq_false hbounds) ..) (not_lt.mp hcap)

theorem gcmEncryptFinal_fitsOutput (ht : s.taglen ≤ 16) :
    Answers (fun _ r => FitsOutput outCap r) (exec (.gcmEncryptFinal input len outCap) s) := by
  refine .of_ite (fun _ => .of_raise (fitsOutput_nil ..)) fun hlegal =>
    .of_ite (fun _ => .of_refuse _) fun hin => .of_ite (fun _ => .of_refuse _) fun _ =>
      .of_ite (fun _ => .of_raise (fitsOutput_nil ..)) fun hcap =>
        .of_withKey fun k _ => .of_finish ?_
  have hopen := (isOpen_of_payloadLegal hlegal).1
  have hlen := gctrFn_memRead_length (Bool.of_not_eq_false hin) (Config.encrypt k) s.ctr
  refine fitsOutput_ok ?_ (not_lt.mp hcap)
  rw [memWrite_nil, ciphertext_eq hopen, beforeEncryptTag_eq hopen, computeTag_setCtr,
    computeTag_sealedAbsorbing _ (sixteen_dvd_pad16_length _),
    ← gctrFn_fst_length (Config.params.encrypt k) s.ctr (memRead input 0 len), memWrite_end,
    List.length_append, tagFn_length _ _ _ ht, Int.natCast_add]
  exact congrArg (· + (s.taglen : Int)) hlen

theorem gcmDecryptFinal_fitsOutput :
    Answers (fun _ r => FitsOutput outCap r) (exec (.gcmDecryptFinal input len outCap) s) := by
  refine .of_ite (fun _ => .of_raise (fitsOutput_nil ..)) fun hlegal =>
    .of_ite (fun _ => .of_refuse _) fun hin => .of_ite (fun _ => .of_refuse _) fun _ =>
      .of_ite (fun _ => .of_refuse _) fun _ => .of_ite (fun _ => .of_raise (fitsOutput_nil ..))
        fun hneed => .of_ite (fun _ => .of_raise (fitsOutput_nil ..)) fun hcap =>
          .of_withKey fun k _ => .of_ite (fun _ => .of_raise (fitsOutput_nil ..)) fun _ =>
            .of_finish ?_
  have hopen := (isOpen_of_payloadLegal hlegal).1
  have hnonneg := nonneg_of_inOperand hin
  have hlen := memRead_length (Bool.of_not_eq_false hin)
  rw [memWrite_nil, keystreamOut_received hopen, trueCiphertext_received hopen]
  refine fitsOutput_ok (congrArg Nat.cast (gctrFn_fst_length ..).symm) ?_
  rw [List.length_take, List.length_append, hlen]
  omega

end Output

/-- Settles O47: command by command, along the checks of its rule. -/
theorem outputFitsItsCapacity : Obligations.OutputFitsItsCapacity := by
  intro input len outCap i s t r ht hi hexec hr
  simp only [List.mem_cons, List.not_mem_nil, or_false] at hi
  rcases hi with rfl | rfl | rfl | rfl | rfl | rfl
  · exact gctrUpdate_fitsOutput input len outCap s t r hexec hr
  · exact gctrDofinal_fitsOutput input len outCap s t r hexec hr
  · exact gcmEncrypt_fitsOutput input len outCap s t r hexec hr
  · exact gcmEncryptFinal_fitsOutput input len outCap s ht t r hexec hr
  · obtain ⟨hn, hout⟩ := gcmDecrypt_answers_nothing input len outCap s t r hexec hr
    exact ⟨by rw [hn, hout]; rfl, by rw [hout]; exact le_max_right outCap 0, fun h => absurd hout h⟩
  · exact gcmDecryptFinal_fitsOutput input len outCap s t r hexec hr

end Sys2Proof.Safety

/-! PROOFS. Whole operations (`42_gcm.md` section 3, properties P1 and P2 of `95_test_vectors.md`). An
operation is run piece by piece: the associated data first, then the payload, each command told from
its rule for operands that are taken whole. The tag is carried through the run as what it would be if
the rest of the ciphertext were absorbed at once (`tagOver`). -/

namespace Sys2Proof.Machine

/-- Whole blocks in front of a byte string do not change its padding (R11). -/
theorem pad16_append {a : Bytes} (h : 16 ∣ a.length) (b : Bytes) :
    pad16 (a ++ b) = a ++ pad16 b := by
  have hmod : (a ++ b).length % 16 = b.length % 16 := by
    rw [List.length_append]
    omega
  rw [pad16, pad16, hmod, List.append_assoc]

end Sys2Proof.Machine

namespace Sys2Proof.Safety

open Sys2Proof.Machine

/-! ## Starting an operation (R140) -/

/-- Settles O33: with operands in range the key alone decides, and the registers that `GCM.INIT` writes
are those of a ready operation. -/
theorem gcmInitLeavesTheOperationReady : Obligations.GcmInitLeavesTheOperationReady := by
  intro dec k iv t s hlow hhigh hiv
  rw [gcmInitStartsTheOperation]
  cases hkey : Config.keyOk k with
  | false => exact ⟨_, if_pos hkey, rfl⟩
  | true =>
    refine ⟨_, (if_neg (by simp [hkey])).trans ((if_neg (by omega)).trans (if_neg (by omega))), ?_⟩
    exact ⟨by constructor <;> rfl, rfl, rfl, rfl, rfl, rfl, rfl, rfl⟩

/-! ## The open parameters (log 2, log 3) -/

/-- Settles O34: over any parameters the checks of the four rules pass and what remains is their effect;
the meaning of the instruction is the rule at the parameters of this machine. -/
theorem openParameterCommandsComplete : Obligations.OpenParameterCommandsComplete := by
  refine ⟨fun p dec k iv t s hkey hlow hhigh hiv => ?_, fun p data ofs len s hphase hin hmax hcap => ?_,
    fun p input len outCap s hphase hdec hin hmax hcap => ?_,
    fun p input len outCap s k hk hphase hdec hin hmax hcap hneed hroom => ?_,
    fun _ _ _ _ => rfl, fun _ _ _ => rfl, fun _ _ _ => rfl, fun _ _ _ => rfl⟩
  · rw [gcmInitWith, if_neg (by simp [hkey]), if_neg (by omega), if_neg (by omega)]
    rfl
  · have hoperand : inOperand data ofs len = true := (inOperand_iff _ _ _).mpr (by omega)
    rw [gcmUpdateAadWith, if_neg (not_not.mpr hphase), if_neg (by simp [hoperand]),
      if_neg (by simpa using hmax), if_neg (by simp [hcap])]
    rfl
  · have hlegal : payloadLegal true s = true := (payloadLegal_iff _ _).mpr ⟨hphase, hdec⟩
    have hoperand : inOperand input 0 len = true := (inOperand_iff _ _ _).mpr (by omega)
    rw [gcmDecryptWith, if_neg (by simp [hlegal]), if_neg (by simp [hoperand]),
      if_neg (by simpa using hmax), if_neg (by simp [hcap]), sealAad_eq hphase, sealedAbsorbing,
      List.append_nil]
    rfl
  · have hlegal : payloadLegal true s = true := (payloadLegal_iff _ _).mpr ⟨hphase, hdec⟩
    have hoperand : inOperand input 0 len = true := (inOperand_iff _ _ _).mpr (by omega)
    rw [gcmDecryptFinalWith, if_neg (by simp [hlegal]), if_neg (by simp [hoperand]),
      if_neg (by simpa using hmax), if_neg (by simp [hcap]), if_neg (by simpa using hneed),
      if_neg (by omega), withKey_some hk]
    dsimp only
    rw [computeTag_beforeDecryptTag hphase, decryptFinalState_eq hphase,
      keystreamOut_received hphase, receivedTag_received hphase, trueCiphertext_received hphase,
      memWrite_nil, ← ite_not]
    exact ite_congr (Bool.not_eq_false _) (fun _ => rfl) fun _ => rfl

/-! ## The tag of an operation under way (R143, R156) -/

/-- The tag that the operation will have if `c` is the rest of its ciphertext. -/
def tagOver (e : Block → Block) (c : Bytes) (s : State) : Bytes :=
  tagFn e s.j0
    (hashFrom s (sealedAad s ++ pad16 c ++ lenBlock (aadlenAfterSeal s) (s.proc + c.length)))
    s.taglen

/-- A payload command that has absorbed whole blocks of ciphertext leaves the tag over them and the
rest. -/
theorem tagOver_payloadState (e : Block → Block) {c : Bytes} (hc : 16 ∣ c.length) (d : Bytes)
    (b : Block) (w : Bytes) (r : Response) (s : State) :
    tagOver e d ((payloadState (ghashFrom s.h0 s.h1 (s.s0, s.s1) (sealedAad s ++ c)) b .sealed w
      (s.proc + c.length) s).respond r) = tagOver e (c ++ d) s := by
  have hblocks : 16 ∣ (sealedAad s ++ c).length := by
    rw [List.length_append]
    exact Nat.dvd_add (sixteen_dvd_sealedAad_length s) hc
  rw [tagOver, tagOver, pad16_append hc, List.length_append, ← Nat.add_assoc,
    ← List.append_assoc (sealedAad s), List.append_assoc (sealedAad s ++ c), hashFrom, hashFrom,
    ghashFrom_append hblocks]
  rfl

/-- The registers once the associated data `a` is gathered, with the response `o`. -/
def gathered (a : Bytes) (o : Option Response) (s : State) : State :=
  { s with aad := s.aad ++ a, response := o }

theorem gathered_nil (s : State) : gathered [] s.response s = s := by
  rw [gathered, List.append_nil]

theorem gathered_appendAad (a b : Bytes) (r : Response) (o : Option Response) (s : State) :
    gathered b o ((s.appendAad a).respond r) = gathered (a ++ b) o s := by
  rw [gathered, gathered, ← List.append_assoc]
  rfl

/-- The tag of a ready operation that has gathered the associated data `a` (R156). -/
theorem tagOver_of_operationReady {dec : Bool} {k iv : Bytes} {t : Nat} {s : State}
    (hs : OperationReady dec k iv t s) (a : Bytes) (o : Option Response) (c : Bytes) :
    tagOver (Config.encrypt k) c (gathered a o s) = aeadTag k iv a c t := by
  have haad : s.aad ++ a = a := by rw [hs.started.aad, List.nil_append]
  simp only [tagOver, aeadTag, sealedAad, aadlenAfterSeal, hashFrom, ghashFn, gathered, haad,
    hs.started.phase, hs.started.proc, hs.started.s0, hs.started.s1, hs.h0, hs.h1, hs.j0, hs.taglen,
    if_true, Nat.zero_add]
  rfl

/-! ## Associated data in pieces (R141) -/

theorem exec_gcmUpdateAad_all {s : State} (hphase : s.phase = .init) {a : Bytes}
    (hmax : s.aad.length + a.length ≤ maxLen) :
    exec (.gcmUpdateAad a 0 a.length) s =
      if withinCap Config.aadCap (s.aad.length + a.length) = false then .refused .bufferCapacity
      else okAnswer 0 [] (s.appendAad a) := by
  rw [gcmUpdateAadAppends, if_neg (not_not.mpr hphase), if_neg (by omega), if_neg (by omega),
    memRead_all]
  rfl

/-- Pieces that fit are gathered, with nothing returned, and the run goes on behind them. -/
theorem runInstrs_aadCommands {as : List Bytes} {s : State} (hphase : s.phase = .init)
    (hmax : s.aad.length + as.flatten.length ≤ maxLen)
    (hcap : withinCap Config.aadCap (s.aad.length + as.flatten.length) = true) :
    ∃ o, runInstrs (aadCommands as) s =
      some (gathered as.flatten o s, as.map fun _ => ⟨.ok, 0, 0, []⟩) := by
  induction as generalizing s with
  | nil =>
    refine ⟨s.response, ?_⟩
    rw [List.flatten_nil, gathered_nil]
    rfl
  | cons a as ih =>
    have hlen : (s.aad ++ a).length = s.aad.length + a.length := List.length_append
    rw [List.flatten_cons, List.length_append, ← Nat.add_assoc, ← hlen] at hmax hcap
    have hexec := exec_gcmUpdateAad_all hphase (a := a) (by omega)
    have hfirst : withinCap Config.aadCap (s.aad.length + a.length) = true :=
      withinCap_mono hcap (by omega)
    rw [if_neg (by simp [hfirst])] at hexec
    obtain ⟨o, hrun⟩ := ih (s := (s.appendAad a).respond ⟨.ok, 0, 0, []⟩) hphase hmax hcap
    refine ⟨o, ?_⟩
    rw [aadCommands, List.map_cons, runInstrs_cons_ok hexec]
    rw [gathered_appendAad] at hrun
    exact congrArg _ hrun

/-- Pieces that do not fit are refused, and with them the run. -/
theorem runInstrs_aadCommands_none {as : List Bytes} {s : State} (hphase : s.phase = .init)
    (hmax : s.aad.length + as.flatten.length ≤ maxLen)
    (hfits : withinCap Config.aadCap s.aad.length = true)
    (hcap : withinCap Config.aadCap (s.aad.length + as.flatten.length) = false) :
    runInstrs (aadCommands as) s = none := by
  induction as generalizing s with
  | nil => exact absurd (hfits.symm.trans hcap) nofun
  | cons a as ih =>
    have hlen : (s.aad ++ a).length = s.aad.length + a.length := List.length_append
    rw [List.flatten_cons, List.length_append, ← Nat.add_assoc, ← hlen] at hmax hcap
    have hexec := exec_gcmUpdateAad_all hphase (a := a) (by omega)
    rw [aadCommands, List.map_cons]
    rw [← hlen] at hexec
    cases hfirst : withinCap Config.aadCap (s.aad ++ a).length with
    | false => exact runInstrs_cons_refused (hexec.trans (if_pos hfirst)) _
    | true =>
      rw [if_neg (by rw [hfirst]; nofun)] at hexec
      have hrest := ih (s := (s.appendAad a).respond ⟨.ok, 0, 0, []⟩) hphase hmax hfirst hcap
      rw [runInstrs_cons_ok hexec]
      exact congrArg _ hrest

/-! ## Encryption in pieces (R144, R145) -/

section Encryption

variable {s : State} {k : Key} (hk : s.ck = some k) (hopen : IsOpen false s)
include hk hopen

theorem exec_gcmEncrypt_all {p : Bytes} (hp : 16 ∣ p.length) (hmax : s.proc + p.length ≤ maxLen) :
    exec (.gcmEncrypt p p.length p.length) s =
      okAnswer p.length (gctrFn (Config.encrypt k) s.ctr p).1
        (payloadState (ghashFrom s.h0 s.h1 (s.s0, s.s1)
            (sealedAad s ++ (gctrFn (Config.encrypt k) s.ctr p).1))
          (gctrFn (Config.encrypt k) s.ctr p).2 .sealed s.ibuf
          (s.proc + (gctrFn (Config.encrypt k) s.ctr p).1.length) s) := by
  have hlegal : ¬ payloadIllegal false s := by
    rw [← payloadLegal_eq_false_iff, Bool.not_eq_false, payloadLegal_iff]
    exact hopen
  have hcount : (p.length + 15) / 16 = p.length / 16 := by omega
  rw [gcmEncryptAbsorbsItsCiphertext _ _ _ _ k hk, if_neg hlegal, if_neg (by omega),
    if_neg (by omega), if_neg (by omega), memRead_all, gctrFn_fst_length, gctrFn_snd, hcount]
  rfl

theorem exec_gcmEncryptFinal_all {p : Bytes} (hmax : s.proc + p.length ≤ maxLen) :
    ∃ u, exec (.gcmEncryptFinal p p.length (p.length + s.taglen)) s =
      okAnswer (p.length + s.taglen)
        ((gctrFn (Config.encrypt k) s.ctr p).1 ++
          tagOver (Config.encrypt k) (gctrFn (Config.encrypt k) s.ctr p).1 s) u := by
  have hlegal : ¬ payloadIllegal false s := by
    rw [← payloadLegal_eq_false_iff, Bool.not_eq_false, payloadLegal_iff]
    exact hopen
  rw [gcmEncryptFinalAppendsTheTag _ _ _ _ k hk, if_neg hlegal, if_neg (by omega),
    if_neg (by omega), if_neg (by omega), memRead_all, tagOver, gctrFn_fst_length]
  exact ⟨_, rfl⟩

end Encryption

/-- The commands of an encryption behind its associated data. -/
abbrev payloadCommands (ps : List Bytes) (pf : Bytes) (t : Nat) : List Instr :=
  ps.map (fun p => .gcmEncrypt p p.length p.length) ++
    [.gcmEncryptFinal pf pf.length (pf.length + t)]

/-- Encryption of whole blocks and a last piece returns, piece by piece, the ciphertext of the
concatenation, and behind it the tag. -/
theorem runInstrs_payloadCommands {ps : List Bytes} (hps : ∀ p ∈ ps, 16 ∣ p.length) (pf : Bytes)
    {s : State} {k : Key} (hk : s.ck = some k) (hopen : IsOpen false s)
    (hmax : s.proc + (ps.flatten ++ pf).length ≤ maxLen) :
    ∃ u rs, runInstrs (payloadCommands ps pf s.taglen) s = some (u, rs) ∧
      (∀ r ∈ rs, r.status = .ok) ∧
      outputs rs = (gctrFn (Config.encrypt k) s.ctr (ps.flatten ++ pf)).1 ++
        tagOver (Config.encrypt k) (gctrFn (Config.encrypt k) s.ctr (ps.flatten ++ pf)).1 s := by
  induction ps generalizing s with
  | nil =>
    obtain ⟨u, hexec⟩ := exec_gcmEncryptFinal_all hk hopen (p := pf) hmax
    refine ⟨_, _, runInstrs_cons_ok hexec [], ?_, List.append_nil _⟩
    rintro r ⟨⟩
    · rfl
    · contradiction
  | cons p ps ih =>
    obtain ⟨hp, hps⟩ := List.forall_mem_cons.mp hps
    rw [List.flatten_cons, List.append_assoc, List.length_append, ← Nat.add_assoc] at hmax
    have hexec := exec_gcmEncrypt_all hk hopen hp (by omega)
    have hlen := gctrFn_fst_length (Config.encrypt k) s.ctr p
    obtain ⟨u, rs, hrun, hok, hout⟩ := ih hps (s := State.respond (payloadState _ _ _ _ _ s) _) hk
      ⟨.inr rfl, hopen.2⟩ (by rw [← hlen] at hmax; exact hmax)
    refine ⟨u, ⟨.ok, 0, p.length, (gctrFn (Config.encrypt k) s.ctr p).1⟩ :: rs, ?_,
      List.forall_mem_cons.mpr ⟨rfl, hok⟩, ?_⟩
    · rw [payloadCommands, List.map_cons, List.cons_append, runInstrs_cons_ok hexec]
      exact congrArg _ hrun
    · rw [outputs_cons, hout, tagOver_payloadState _ (by omega), List.flatten_cons,
        List.append_assoc, gctrFn_append _ hp]
      exact (List.append_assoc _ _ _).symm

/-- A ready operation, once the associated data is gathered, still takes payload. -/
theorem isOpen_gathered {dec : Bool} {k iv : Bytes} {t : Nat} {s : State}
    (hs : OperationReady dec k iv t s) (a : Bytes) (o : Option Response) :
    IsOpen dec (gathered a o s) :=
  ⟨.inl hs.started.phase, hs.dec⟩

/-- The associated data of a ready operation, in pieces: gathered, or refused with the run. -/
theorem runInstrs_aadCommands_of_ready {dec : Bool} {k iv : Bytes} {t : Nat} {s : State}
    (hs : OperationReady dec k iv t s) {as : List Bytes} (hmax : as.flatten.length ≤ maxLen) :
    if withinCap Config.aadCap as.flatten.length = true then
      ∃ o, runInstrs (aadCommands as) s =
        some (gathered as.flatten o s, as.map fun _ => ⟨.ok, 0, 0, []⟩)
    else runInstrs (aadCommands as) s = none := by
  have hsum : s.aad.length + as.flatten.length = as.flatten.length := by
    rw [hs.started.aad, List.length_nil, Nat.zero_add]
  split
  · next hcap =>
    exact runInstrs_aadCommands hs.started.phase (hsum.le.trans hmax) (hsum.symm ▸ hcap)
  · next hcap =>
    have hempty : withinCap Config.aadCap s.aad.length = true := by
      rw [hs.started.aad]
      exact withinCap_zero _
    exact runInstrs_aadCommands_none hs.started.phase (hsum.le.trans hmax) hempty
      (hsum.symm ▸ Bool.of_not_eq_true hcap)

/-- The keystream of a ready operation begins behind `J0` (R140, R156). -/
theorem gctrFn_gathered {dec : Bool} {k iv : Bytes} {t : Nat} {s : State}
    (hs : OperationReady dec k iv t s) (a : Bytes) (o : Option Response) (d : Bytes) :
    (gctrFn (Config.encrypt k) (gathered a o s).ctr d).1 = aeadPayload k iv d := by
  have hctr : (gathered a o s).ctr = inc32 (j0Fn (Config.encrypt k 0) iv) :=
    hs.started.ctr.trans hs.icb
  rw [hctr, aeadPayload]

theorem outputs_map_nothing {α : Type} (l : List α) :
    outputs (l.map fun _ => ⟨.ok, 0, 0, []⟩) = [] := by
  induction l with
  | nil => rfl
  | cons x l ih => exact ih

/-- Settles O55: the associated data is gathered or refused; behind it the payload gives the ciphertext
and the tag over both. -/
theorem encryptionComputesTheAead : Obligations.EncryptionComputesTheAead := by
  intro k iv t as ps pf s hs hps hamax hpmax
  have haad := runInstrs_aadCommands_of_ready hs hamax
  rw [encryptCommands, List.append_assoc, runInstrs_append]
  split
  · next hcap =>
    rw [if_pos hcap] at haad
    obtain ⟨o, haad⟩ := haad
    have hproc : (gathered as.flatten o s).proc = 0 := hs.started.proc
    obtain ⟨u, rs, hrun, hok, hout⟩ := runInstrs_payloadCommands hps pf (s := gathered as.flatten o s)
      hs.ck (isOpen_gathered hs ..) (by rw [hproc, Nat.zero_add]; exact hpmax)
    have htaglen : (gathered as.flatten o s).taglen = t := hs.taglen
    rw [htaglen] at hrun
    refine ⟨u, as.map (fun _ => ⟨.ok, 0, 0, []⟩) ++ rs, ?_, ?_, ?_⟩
    · rw [haad]
      exact congrArg (Option.map _) hrun
    · intro r hr
      rcases List.mem_append.mp hr with hr | hr
      · obtain ⟨-, -, rfl⟩ := List.mem_map.mp hr
        rfl
      · exact hok r hr
    · rw [outputs_append, outputs_map_nothing, List.nil_append, hout, gctrFn_gathered hs,
        tagOver_of_operationReady hs]
  · next hcap =>
    rw [if_neg hcap] at haad
    rw [haad]
    rfl

/-! ## Decryption in pieces (R146, R147) -/

/-- The answer of `GCM.DECRYPT_FINAL` in a state whose buffer is complete with `w`: the plaintext, or
the tag mismatch (R147). -/
def finalResponse (e : Block → Block) (w : Bytes) (s : State) : Response :=
  let c := w.take (w.length - s.taglen)
  if tagOver e c s = w.drop (w.length - s.taglen) then ⟨.ok, 0, c.length, (gctrFn e s.ctr c).1⟩
  else ⟨.aeadBadTag, 2, 0, []⟩

section Decryption

variable {s : State} (hopen : IsOpen true s)
include hopen

theorem exec_gcmDecrypt_all {w : Bytes} (hmax : (s.ibuf ++ w).length ≤ maxLen) :
    exec (.gcmDecrypt w w.length 0) s =
      if withinCap Config.ibufCap (s.ibuf ++ w).length = false then .refused .bufferCapacity
      else okAnswer 0 []
        (payloadState (ghashFrom s.h0 s.h1 (s.s0, s.s1) (sealedAad s)) s.ctr .sealed
          (s.ibuf ++ w) s.proc s) := by
  have hlegal : ¬ payloadIllegal true s := by
    rw [← payloadLegal_eq_false_iff, Bool.not_eq_false, payloadLegal_iff]
    exact hopen
  rw [List.length_append] at hmax ⊢
  rw [gcmDecryptOnlyBuffers, if_neg hlegal, if_neg (by omega), if_neg (by omega), memRead_all]
  rfl

theorem exec_gcmDecryptFinal_all {k : Key} (hk : s.ck = some k) (ht : s.taglen ≤ 16) {w : Bytes}
    (hmax : (s.ibuf ++ w).length ≤ maxLen) (hneed : s.taglen ≤ (s.ibuf ++ w).length) {cap : Int}
    (hroom : cap = (s.ibuf ++ w).length - s.taglen) :
    if withinCap Config.ibufCap (s.ibuf ++ w).length = true then
      ∃ u : State, exec (.gcmDecryptFinal w w.length cap) s =
        .next (u.respond (finalResponse (Config.encrypt k) (s.ibuf ++ w) s))
    else exec (.gcmDecryptFinal w w.length cap) s = .refused .bufferCapacity := by
  have hlegal : ¬ payloadIllegal true s := by
    rw [← payloadLegal_eq_false_iff, Bool.not_eq_false, payloadLegal_iff]
    exact hopen
  have htotal : (s.ibuf.length : Int) + w.length = ((s.ibuf ++ w).length : Nat) := by simp
  rw [gcmDecryptFinalVerifiesBeforeReleasing _ _ _ _ k hk]
  dsimp only
  rw [htotal, Int.toNat_natCast, memRead_all]
  cases withinCap Config.ibufCap (s.ibuf ++ w).length with
  | false =>
    rw [if_neg Bool.false_ne_true, if_neg hlegal, if_neg (by omega), if_neg (by omega), if_pos rfl]
  | true =>
    rw [if_pos rfl, if_neg hlegal, if_neg (by omega), if_neg (by omega),
      if_neg (by decide : ¬ true = false), if_neg (by omega), if_neg (by omega)]
    generalize s.ibuf ++ w = buffer at hneed
    have hlen : (tagOver (Config.encrypt k) (buffer.take (buffer.length - s.taglen)) s).length =
        (buffer.drop (buffer.length - s.taglen)).length := by
      rw [tagOver, tagFn_length _ _ _ ht, List.length_drop]
      omega
    have hgate := tagEqualIsEquality _ _ hlen
    rw [finalResponse]
    by_cases heq : tagOver (Config.encrypt k) (buffer.take (buffer.length - s.taglen)) s =
        buffer.drop (buffer.length - s.taglen)
    · rw [if_pos heq]
      exact ⟨_, if_pos (hgate.mpr heq)⟩
    · rw [if_neg heq]
      exact ⟨_, if_neg (mt hgate.mp heq)⟩

end Decryption

/-- A payload command that only buffers leaves the final answer as it was. -/
theorem finalResponse_payloadState (e : Block → Block) (w v : Bytes) (r : Response) (s : State) :
    finalResponse e w ((payloadState (ghashFrom s.h0 s.h1 (s.s0, s.s1) (sealedAad s)) s.ctr .sealed v
      s.proc s).respond r) = finalResponse e w s := by
  have htag := tagOver_payloadState (c := []) e (Nat.dvd_zero 16)
    (w.take (w.length - s.taglen)) s.ctr v r s
  rw [List.append_nil, List.nil_append] at htag
  unfold finalResponse
  exact ite_congr (congrArg (· = _) htag) (fun _ => rfl) fun _ => rfl

/-- The commands of a decryption behind its associated data, the last with the output capacity
`cap`. -/
abbrev wireCommands (ws : List Bytes) (wf : Bytes) (cap : Int) : List Instr :=
  ws.map (fun w => .gcmDecrypt w w.length 0) ++ [.gcmDecryptFinal wf wf.length cap]

/-- Decryption in pieces returns nothing until the last, which answers for the whole buffer; if the
buffer does not hold them, the run is refused. -/
theorem runInstrs_wireCommands (ws : List Bytes) (wf : Bytes) {s : State} {k : Key}
    (hk : s.ck = some k) (hopen : IsOpen true s) (ht : s.taglen ≤ 16) {w : Bytes}
    (hw : w = s.ibuf ++ (ws.flatten ++ wf)) (hmax : w.length ≤ maxLen) (hneed : s.taglen ≤ w.length)
    {cap : Int} (hroom : cap = w.length - s.taglen) :
    if withinCap Config.ibufCap w.length = true then
      ∃ u, runInstrs (wireCommands ws wf cap) s =
        some (u, ws.map (fun _ => ⟨.ok, 0, 0, []⟩) ++ [finalResponse (Config.encrypt k) w s])
    else runInstrs (wireCommands ws wf cap) s = none := by
  induction ws generalizing s with
  | nil =>
    rw [List.flatten_nil, List.nil_append] at hw
    subst hw
    have hexec := exec_gcmDecryptFinal_all hopen hk ht hmax hneed hroom
    split
    · next hcap =>
      rw [if_pos hcap] at hexec
      obtain ⟨u, hexec⟩ := hexec
      exact ⟨_, runInstrs_cons hexec rfl []⟩
    · next hcap =>
      rw [if_neg hcap] at hexec
      exact runInstrs_cons_refused hexec []
  | cons v ws ih =>
    rw [List.flatten_cons, List.append_assoc, ← List.append_assoc] at hw
    have hle : (s.ibuf ++ v).length ≤ w.length := by
      rw [hw, List.length_append (as := s.ibuf ++ v)]
      exact Nat.le_add_right _ _
    have hexec := exec_gcmDecrypt_all hopen (hle.trans hmax)
    have hrest := ih (s := State.respond (payloadState (ghashFrom s.h0 s.h1 (s.s0, s.s1)
      (sealedAad s)) s.ctr .sealed (s.ibuf ++ v) s.proc s) ⟨.ok, 0, 0, []⟩) hk ⟨.inr rfl, hopen.2⟩
      ht hw hneed hroom
    rw [wireCommands, List.map_cons, List.cons_append]
    cases hfirst : withinCap Config.ibufCap (s.ibuf ++ v).length with
    | false =>
      have hcap : ¬ withinCap Config.ibufCap w.length = true := fun h =>
        Bool.false_ne_true (hfirst.symm.trans (withinCap_mono h hle))
      rw [if_neg hcap]
      exact runInstrs_cons_refused (hexec.trans (if_pos hfirst)) _
    | true =>
      rw [if_neg (by rw [hfirst]; nofun)] at hexec
      rw [runInstrs_cons_ok hexec]
      split
      · next hcap =>
        rw [if_pos hcap] at hrest
        obtain ⟨u, hrest⟩ := hrest
        rw [finalResponse_payloadState] at hrest
        exact ⟨u, congrArg (Option.map _) hrest⟩
      · next hcap =>
        rw [if_neg hcap] at hrest
        exact congrArg (Option.map _) hrest

/-- The final answer of a ready operation, in the terms of the operation alone (R156). -/
theorem finalResponse_gathered {dec : Bool} {k iv : Bytes} {t : Nat} {s : State}
    (hs : OperationReady dec k iv t s) (a : Bytes) (o : Option Response) (w : Bytes) :
    finalResponse (Config.encrypt k) w (gathered a o s) =
      if aeadTag k iv a (w.take (w.length - t)) t = w.drop (w.length - t)
      then ⟨.ok, 0, (w.take (w.length - t)).length, aeadPayload k iv (w.take (w.length - t))⟩
      else ⟨.aeadBadTag, 2, 0, []⟩ := by
  have htaglen : (gathered a o s).taglen = t := hs.taglen
  rw [finalResponse, htaglen, tagOver_of_operationReady hs, gctrFn_gathered hs]

/-- Settles O56: the associated data is gathered or refused; behind it the wire data is buffered or
refused, and the last command answers for the whole of it. -/
theorem decryptionComputesTheAead : Obligations.DecryptionComputesTheAead := by
  intro k iv t as ws wf s hs ht hamax hwmax hneed
  have haad := runInstrs_aadCommands_of_ready hs hamax
  dsimp only
  rw [decryptCommands, List.append_assoc, runInstrs_append]
  cases hcap : withinCap Config.aadCap as.flatten.length with
  | false =>
    rw [if_neg (by rw [hcap]; nofun)] at haad
    rw [haad]
    rfl
  | true =>
    rw [if_pos hcap] at haad
    obtain ⟨o, haad⟩ := haad
    have hibuf : (gathered as.flatten o s).ibuf = [] := hs.started.ibuf
    have htaglen : (gathered as.flatten o s).taglen = t := hs.taglen
    have hrun := runInstrs_wireCommands ws wf (s := gathered as.flatten o s) hs.ck
      (isOpen_gathered hs ..) (by rw [htaglen]; exact ht) (by rw [hibuf]; rfl) hwmax
      (by rw [htaglen]; exact hneed) rfl
    rw [htaglen] at hrun
    rw [haad, Bool.true_and]
    split
    · next hbuf =>
      rw [if_pos hbuf] at hrun
      obtain ⟨u, hrun⟩ := hrun
      refine ⟨u, as.map (fun _ => ⟨.ok, 0, 0, []⟩) ++ ws.map fun _ => ⟨.ok, 0, 0, []⟩, _, ?_, ?_,
        finalResponse_gathered hs _ o _⟩
      · rw [List.append_assoc]
        exact congrArg (Option.map _) hrun
      · intro r hr
        rw [← List.map_append] at hr
        obtain ⟨-, -, rfl⟩ := List.mem_map.mp hr
        rfl
    · next hbuf =>
      rw [if_neg hbuf] at hrun
      exact congrArg (Option.map _) hrun

/-- Settles O57: the tag behind the ciphertext is the expected one, and `gctr_fn` undoes itself. -/
theorem decryptionUndoesEncryption : Obligations.DecryptionUndoesEncryption := by
  intro k iv t a p s v hs hv ht hamax hpmax hacap
  have hflat : [a].flatten = a := List.flatten_singleton
  have henc := encryptionComputesTheAead k iv t [a] [] p s hs nofun (hflat.symm ▸ hamax)
    (Nat.le_of_add_right_le hpmax)
  rw [hflat, if_pos hacap, List.flatten_nil, List.nil_append] at henc
  obtain ⟨u, rs, hrun, -, hout⟩ := henc
  have hclen : (aeadPayload k iv p).length = p.length := gctrFn_fst_length _ _ _
  have htlen : (aeadTag k iv a (aeadPayload k iv p) t).length = t := tagFn_length _ _ _ ht
  have hlen : (outputs rs).length = p.length + t := by
    rw [hout, List.length_append, hclen, htlen]
  have hcut : (outputs rs).length - t = (aeadPayload k iv p).length := by omega
  refine ⟨u, rs, hrun, fun hbuf => ?_⟩
  have hdec := decryptionComputesTheAead k iv t [a] [] (outputs rs) v hv ht (hflat.symm ▸ hamax)
    (hlen.le.trans hpmax) (by rw [List.flatten_nil, List.nil_append]; omega)
  dsimp only at hdec
  rw [hflat, List.flatten_nil, List.nil_append, hacap, hlen, hbuf, Bool.and_self, if_pos rfl, ← hlen,
    hcut, hout, List.take_left, List.drop_left, if_pos rfl, ← hout, hclen] at hdec
  obtain ⟨x, qs, last, hrun, -, rfl⟩ := hdec
  refine ⟨x, _, hrun, ?_⟩
  rw [List.getLast?_concat, aeadPayload, aeadPayload, gctrFn_gctrFn]

end Sys2Proof.Safety
